-- ==== Sys2Proof/Word.lean ====
section
/-! DEFINITION. The two widths in which ECU-CORE holds values (spec/00_scope.md R5, spec/20_memory.md R35). -/

namespace Sys2Proof

/-- One byte of a frame or of a byte-array register (u8). -/
abbrev Byte := BitVec 8

/-- A 32-bit value (u32): VALUE_BITS of spec/00_scope.md R4. All values are unsigned (R106). -/
abbrev Word := BitVec 32

end Sys2Proof
end

