-- ==== Sys2Proof/Config.lean ====
section
/-! DEFINITION. What is fixed for a run: the implementation parameters of spec/00_scope.md R4 with the variant table of
spec/42_wire_codec.md R70, the configuration record of port CFG (spec/10_state.md R23), the register file that record
fills, and the free values (values the spec leaves open, opaque so that nothing can be proved of them). -/

namespace Sys2Proof

/-- The 24 variants of ChannelCommand, in the order of the table of R70 (42_wire_codec.md). -/
inductive Variant where
  | resetAllSettingsReq | resetAllSettingsRes
  | statusReq | statusRes
  | setVariableReq | setVariableRes
  | getVariableReq | getVariableRes
  | syncClockReq | syncClockRes
  | dataReq | dataRes
  | nodeInfoReq | nodeInfoRes
  | flashClearReq | flashStatusRes
  | heartbeatReq | heartbeatRes
  | parameterSetReq | parameterSetConf
  | parameterSetLockReq | parameterSetLockConf
  | nodeInfoExtReq | nodeInfoExtRes
deriving DecidableEq, Repr

/-- All 24 rows of the table of R70, in its order. -/
def Variant.all : List Variant :=
  [.resetAllSettingsReq, .resetAllSettingsRes, .statusReq, .statusRes,
   .setVariableReq, .setVariableRes, .getVariableReq, .getVariableRes,
   .syncClockReq, .syncClockRes, .dataReq, .dataRes] ++
  [.nodeInfoReq, .nodeInfoRes, .flashClearReq, .flashStatusRes,
   .heartbeatReq, .heartbeatRes, .parameterSetReq, .parameterSetConf,
   .parameterSetLockReq, .parameterSetLockConf, .nodeInfoExtReq, .nodeInfoExtRes]

/-- The row number (column # of R70) of a variant. -/
def Variant.row : Variant → Fin 24
  | .resetAllSettingsReq => 0
  | .resetAllSettingsRes => 1
  | .statusReq => 2
  | .statusRes => 3
  | .setVariableReq => 4
  | .setVariableRes => 5
  | .getVariableReq => 6
  | .getVariableRes => 7
  | .syncClockReq => 8
  | .syncClockRes => 9
  | .dataReq => 10
  | .dataRes => 11
  | .nodeInfoReq => 12
  | .nodeInfoRes => 13
  | .flashClearReq => 14
  | .flashStatusRes => 15
  | .heartbeatReq => 16
  | .heartbeatRes => 17
  | .parameterSetReq => 18
  | .parameterSetConf => 19
  | .parameterSetLockReq => 20
  | .parameterSetLockConf => 21
  | .nodeInfoExtReq => 22
  | .nodeInfoExtRes => 23

/-- The four values of the envelope's buffer_type field (R51); their codes are in Decode.lean. -/
inductive BufferType where
  | direct | absolute | relative | reserved
deriving DecidableEq, Repr

/-- The implementation parameters of R4 that are not counts of the configuration, with the declared pads of R70.
`tags` and `pads` are indexed by `Variant.row`. Nothing changes them during a run. -/
structure Params where
  /-- WIRE_SIZE, the declared total size S of a WireCommand. -/
  wireSize : Nat
  /-- GENERIC_CHANNEL_ID. -/
  genericChannelId : BitVec 6
  /-- RESP_BUFFER_TYPE. -/
  respBufferType : BufferType
  /-- TAG_<variant> for the 24 variants. -/
  tags : Vector Byte 24
  /-- The declared pad of each row. -/
  pads : Vector Nat 24
deriving DecidableEq, Repr

/-- The tag parameter of a variant (`tag_of`, R72). -/
def Params.tag (p : Params) (v : Variant) : Byte := p.tags.get v.row

/-- The declared pad of a variant's row (R70). -/
def Params.pad (p : Params) (v : Variant) : Nat := p.pads.get v.row

/-- The eight datatype labels (R20). A label only: no rule converts or checks a value by it. -/
inductive Datatype where
  | float32 | int32 | int16 | int8 | uint32 | uint16 | uint8 | boolean
deriving DecidableEq, Repr

/-- The 3-bit code of a datatype label, in listing order (R20). -/
def Datatype.code : Datatype → BitVec 3
  | .float32 => 0
  | .int32 => 1
  | .int16 => 2
  | .int8 => 3
  | .uint32 => 4
  | .uint16 => 5
  | .uint8 => 6
  | .boolean => 7

/-- One entry of PAR (R18). -/
structure ParEntry where
  value : Word
  locked : Bool
  dtype : Datatype
deriving DecidableEq, Repr

/-- One entry of TEL (R19). -/
structure TelEntry where
  value : Word
  dtype : Datatype
deriving DecidableEq, Repr

/-- The record of port CFG (R23). The bounds `len(device_name) ≤ 53`, `N_PAR ≤ 255` and `N_TEL ≤ 255` are
`CfgRecord.wf` in WellFormed.lean; the reset sequence checks them. -/
structure CfgRecord where
  nodeId : BitVec 6
  frequency : Word
  firmwareHash : Word
  liquidHash : Word
  deviceName : List Byte
  var : Vector (Option Word) 256
  reqdata : Option (Vector Byte 60)
  nodeinfo : Option (Vector Byte 40)
  flashstatus : Option Byte
  par : List ParEntry
  tel : List TelEntry
deriving DecidableEq, Repr

/-- What port CFG delivers (R23): a record, or the single value ConfigError. -/
inductive CfgResult where
  | record (c : CfgRecord)
  | configError
deriving DecidableEq, Repr

/-- DESIGN CHOICE (log 4): the configuration behind `State.reset`. Every optional key is left out and every required
scalar is zero, the name and both tables are empty ("zero / absent where the loader supplies nothing", R4). -/
def CfgRecord.empty : CfgRecord where
  nodeId := 0
  frequency := 0
  firmwareHash := 0
  liquidHash := 0
  deviceName := []
  var := Vector.replicate 256 none
  reqdata := none
  nodeinfo := none
  flashstatus := none
  par := []
  tel := []

/-- The register file (R28 without the phase). N_PAR and N_TEL are the lengths of `par` and `tel` (R18, R19, log 10).
An `Option` here is the spec's own present bit (R11, R13): `none` is "absent". -/
structure Regs where
  /-- VAR[0] .. VAR[255] (R11). -/
  var : Vector (Option Word) 256
  /-- REQDATA (R15). -/
  reqdata : Option (Vector Byte 60)
  /-- NODEINFO (R16). -/
  nodeinfo : Option (Vector Byte 40)
  /-- FLASHSTATUS (R17). -/
  flashstatus : Option Byte
  /-- NODE_ID (R14). -/
  nodeId : BitVec 6
  /-- FREQUENCY (R14). -/
  frequency : Word
  /-- FIRMWARE_HASH (R14). -/
  firmwareHash : Word
  /-- LIQUID_HASH (R14). -/
  liquidHash : Word
  /-- DEVICE_NAME (R14). -/
  deviceName : Vector Byte 53
  /-- PAR[0] .. PAR[N_PAR-1] (R18). -/
  par : List ParEntry
  /-- TEL[0] .. TEL[N_TEL-1] (R19). -/
  tel : List TelEntry
deriving DecidableEq, Repr, Inhabited

/-- FREE VALUE (log 6): the register file of a machine in phase FAILED, where "no register has a defined value" (R171,
U15). Opaque: no proof can use what it is. -/
opaque Config.failedRegs : Nat → Regs

end Sys2Proof
end

