-- ==== Sys2Proof/Syntax.lean ====
section
/-! DEFINITION. The instructions: one constructor per row of spec/opcode_table.json, which are the 24 variants of
ChannelCommand (spec/42_wire_codec.md R70) with the fields of their body layouts (spec/30_encoding.md R53). Every field
has exactly its encoded width, so no ill-formed field can be written. -/

namespace Sys2Proof

/-- ChannelCommand (R70): the decoded instruction of a frame. -/
inductive Instr where
  | resetAllSettingsReq
  | resetAllSettingsRes
  | statusReq
  | statusRes
  | setVariableReq (id : Byte) (value : Word)
  | setVariableRes (id : Byte) (value : Word)
  | getVariableReq (id : Byte)
  | getVariableRes (id : Byte) (value : Word)
  | syncClockReq
  | syncClockRes
  | dataReq
  | dataRes (channelMask : Word) (data : Vector Byte 56)
  | nodeInfoReq
  | nodeInfoRes (firmwareVersion channelMask : Word) (channelType : Vector Byte 32)
  | flashClearReq
  | flashStatusRes (status : Byte)
  | heartbeatReq (counter : Word)
  | heartbeatRes (counter : Word)
  | parameterSetReq (id : Byte) (value : Word)
  | parameterSetConf (id status : Byte) (value : Word)
  | parameterSetLockReq (id : Byte) (lock : Bool)
  | parameterSetLockConf (id status : Byte) (lock : Bool)
  | nodeInfoExtReq
  | nodeInfoExtRes (telCount parCount : Byte) (firmwareHash liquidHash : Word) (deviceName : Vector Byte 52)
deriving DecidableEq, Repr

end Sys2Proof
end

