-- ==== Sys2Proof/Decode.lean ====
section
/-! DEFINITION. The three codecs, each total: the identifier codec (spec/40_identifier_codec.md), the frame envelope codec
(spec/41_envelope_codec.md) and the tagged wire format (spec/42_wire_codec.md), on the formats of
spec/30_encoding.md; then the decoder of a frame's data field, the encoder, and the decoder of an opcode-table word. -/

namespace Sys2Proof

/-! ### The default parameters -/

/-- The defaults of R4, R52 and R70: WIRE_SIZE 63, GENERIC_CHANNEL_ID 63, RESP_BUFFER_TYPE Direct, tags 0..23.
The spec marks the channel id as from general knowledge and the tags as its own placeholders (log 3). -/
def Params.default : Params where
  wireSize := 63
  genericChannelId := 63
  respBufferType := .direct
  tags := #v[0, 1, 2, 3, 4, 5, 6, 7, 8, 9, 10, 11, 12, 13, 14, 15, 16, 17, 18, 19, 20, 21, 22, 23]
  pads := #v[62, 62, 62, 62, 57, 57, 61, 57, 62, 62, 62, 2, 62, 22, 62, 61, 58, 58, 57, 56, 60, 59, 62, 0]

/-! ### Byte order (spec/20_memory.md R32, spec/00_scope.md R5) -/

/-- `n` bytes of `v`, least-significant byte first (`le_8n`, R5). -/
def leBytes : Nat → Nat → List Byte
  | 0, _ => []
  | n + 1, v => BitVec.ofNat 8 v :: leBytes n (v / 256)

/-- `from_le` (R5): the unsigned value whose least-significant byte is the first. -/
def fromLe : List Byte → Nat
  | [] => 0
  | b :: bs => b.toNat + 256 * fromLe bs

/-- `le_32` (R5): a u32 field as it lies in a frame (R32). -/
def le32 (v : Word) : List Byte := leBytes 4 v.toNat

/-- The u32 field at offset `p` of a body, little-endian (R32, R54). -/
def u32At (b : List Byte) (p : Nat) : Word := BitVec.ofNat 32 (fromLe ((b.drop p).take 4))

/-- The u8 field at offset `p` of a body (R54). -/
def u8At (b : List Byte) (p : Nat) : Byte := b.getD p 0

/-- The n-byte array field at offset `p` of a body, in index order (R33, R54). -/
def bytesAt (n : Nat) (b : List Byte) (p : Nat) : Vector Byte n := Vector.ofFn fun k => b.getD (p + k.val) 0

/-- The bool field at offset `p` of a body: false exactly for 0x00 (R74, R130). -/
def boolAt (b : List Byte) (p : Nat) : Bool := b.getD p 0 != 0

/-- A bool field as it is sent: 0x00 or 0x01 (R73). -/
def boolByte (f : Bool) : Byte := if f then 1 else 0

/-- The memory primitives of R6 on a 64-byte frame buffer: `MemRead(B+o, n)`. -/
def memRead (b : Vector Byte 64) (o n : Nat) : Nat := fromLe ((b.toList.drop o).take n)

/-! ### Failures of the codecs (spec/60_exceptions.md R151) -/

/-- DecodeError, with the info each cause records (R151 codes 2 to 6). -/
inductive DecodeError where
  /-- Code 2: the frame is not CAN-FD or not standard-addressed (R93); the two flags. -/
  | frameKind (fd ext : Bool)
  /-- Code 3: the data length is not 64 (R66, R94); the length. -/
  | length (len : Nat)
  /-- Code 4: the channel_id is not GENERIC_CHANNEL_ID (R96); the channel_id. -/
  | unknownChannel (channelId : BitVec 6)
  /-- Code 5: the tag equals none of the 24 tag parameters (R74); the tag. -/
  | unknownTag (tag : Byte)
  /-- Code 6: fewer bytes after the tag than payload_size (R74); tag, have, need. Unreachable in a frame step. -/
  | shortPayload (tag : Option Byte) (have_ need : Nat)
deriving DecidableEq, Repr

/-- EncodeError (R62, R151 code 7). -/
inductive EncodeError where
  /-- Code 7: an operand of ID.TOARB above 0x7FF. Unreachable in a frame step (R63). -/
  | outOfRange (v : BitVec 16)
deriving DecidableEq, Repr

/-! ### Format ARBID and the identifier codec (R50, R60 to R62) -/

/-- The direction field, bit 0 (R50). -/
inductive Direction where
  | masterToNode | nodeToMaster
deriving DecidableEq, Repr

/-- The special_cmd field, bits 8:7 (R50). -/
inductive SpecialCmd where
  | abort | clockSync | info | standard
deriving DecidableEq, Repr

/-- The priority field, bits 10:9 (R50). -/
inductive Priority where
  | urgent | high | standard | low
deriving DecidableEq, Repr

/-- MessageIdentifier (spec/40_identifier_codec.md). -/
structure MessageIdentifier where
  direction : Direction
  nodeId : BitVec 6
  specialCmd : SpecialCmd
  priority : Priority
deriving DecidableEq, Repr

/-- 0 = MasterToNode, 1 = NodeToMaster (R50). -/
def Direction.code : Direction → BitVec 1
  | .masterToNode => 0
  | .nodeToMaster => 1

def Direction.ofCode (b : BitVec 1) : Direction := if b = 0 then .masterToNode else .nodeToMaster

/-- 0 = Abort, 1 = ClockSync, 2 = Info, 3 = Standard (R50). -/
def SpecialCmd.code : SpecialCmd → BitVec 2
  | .abort => 0
  | .clockSync => 1
  | .info => 2
  | .standard => 3

def SpecialCmd.ofCode (b : BitVec 2) : SpecialCmd :=
  if b = 0 then .abort else if b = 1 then .clockSync else if b = 2 then .info else .standard

/-- 0 = Urgent, 1 = High, 2 = Standard, 3 = Low (R50). -/
def Priority.code : Priority → BitVec 2
  | .urgent => 0
  | .high => 1
  | .standard => 2
  | .low => 3

def Priority.ofCode (b : BitVec 2) : Priority :=
  if b = 0 then .urgent else if b = 1 then .high else if b = 2 then .standard else .low

/-- 0 = Direct, 1 = Absolute, 2 = Relative, 3 = Reserved (R51, D4). -/
def BufferType.code : BufferType → BitVec 2
  | .direct => 0
  | .absolute => 1
  | .relative => 2
  | .reserved => 3

def BufferType.ofCode (b : BitVec 2) : BufferType :=
  if b = 0 then .direct else if b = 1 then .absolute else if b = 2 then .relative else .reserved

/-- ID.PACK (R60). -/
def idPack (m : MessageIdentifier) : BitVec 16 :=
  m.direction.code.setWidth 16 ||| (m.nodeId.setWidth 16 <<< 1) ||| (m.specialCmd.code.setWidth 16 <<< 7) |||
    (m.priority.code.setWidth 16 <<< 9)

/-- ID.UNPACK (R61): bits 15:11 have no influence. -/
def idUnpack (v : BitVec 16) : MessageIdentifier where
  direction := .ofCode (v.extractLsb' 0 1)
  nodeId := v.extractLsb' 1 6
  specialCmd := .ofCode (v.extractLsb' 7 2)
  priority := .ofCode (v.extractLsb' 9 2)

/-- ID.TOARB (R62). -/
def idToArb (v : BitVec 16) : Except EncodeError (BitVec 11) :=
  if 0x7FF < v.toNat then .error (.outOfRange v) else .ok (v.extractLsb' 0 11)

/-! ### Format ENV and the envelope codec (R51, R65, R66) -/

/-- FrameEnvelope (R51). -/
structure FrameEnvelope where
  channelId : BitVec 6
  bufferType : BufferType
  commandId : Byte
  payload : Vector Byte 62
deriving DecidableEq, Repr

/-- Byte 0 of the envelope: channel_id in bits 5:0, buffer_type in bits 7:6 (R51, R65). -/
def envByte0 (channelId : BitVec 6) (bufferType : BufferType) : Byte :=
  channelId.setWidth 8 ||| (bufferType.code.setWidth 8 <<< 6)

/-- channel_id of byte 0: `b & 0x3F` (R54, R66). -/
def channelOf (byte0 : Byte) : BitVec 6 := (byte0 &&& 0x3F).setWidth 6

/-- buffer_type of byte 0: `b >> 6` (R54, R66). -/
def bufferTypeOf (byte0 : Byte) : BufferType := .ofCode ((byte0 >>> 6).setWidth 2)

/-- ENV.PACK (R65): byte 0, the command_id, the payload left-aligned, zero fill. The operand type is
`len(payload) ≤ 62`; nothing of the model presents a longer one that is not all zero beyond (log 19). -/
def envPack (channelId : BitVec 6) (bufferType : BufferType) (commandId : Byte) (payload : List Byte) : Vector Byte 64 :=
  Vector.ofFn fun k => (envByte0 channelId bufferType :: commandId :: payload).getD k.val 0

/-- The data field of a frame as the content of RXB (R30, R66). -/
def frameBuffer (bytes : List Byte) : Vector Byte 64 := Vector.ofFn fun k => bytes.getD k.val 0

/-- ENV.UNPACK (R66): fails exactly when the length is not 64. -/
def envUnpack (bytes : List Byte) : Except DecodeError FrameEnvelope :=
  if bytes.length = 64 then
    .ok { channelId := channelOf (u8At bytes 0)
          bufferType := bufferTypeOf (u8At bytes 0)
          commandId := u8At bytes 1
          payload := bytesAt 62 bytes 2 }
  else .error (.length bytes.length)

/-! ### Format WIRE: the variant table (R53, R70) -/

/-- The twelve body layouts (R53). -/
inductive Layout where
  | empty | setVar | getVar | data | nodeInfo | flashStatus | heartbeat | parSet | parConf | parLock | parLockConf
  | nodeInfoExt
deriving DecidableEq, Repr

/-- payload_size: the sum of the layout's field widths in bytes (R53). -/
def Layout.payloadSize : Layout → Nat
  | .empty => 0
  | .setVar => 1 + 4
  | .getVar => 1
  | .data => 4 + 56
  | .nodeInfo => 4 + 4 + 32
  | .flashStatus => 1
  | .heartbeat => 4
  | .parSet => 1 + 4
  | .parConf => 1 + 1 + 4
  | .parLock => 1 + 1
  | .parLockConf => 1 + 1 + 1
  | .nodeInfoExt => 1 + 1 + 4 + 4 + 52

/-- The layout column of R70. -/
def Variant.layout : Variant → Layout
  | .resetAllSettingsReq => .empty
  | .resetAllSettingsRes => .empty
  | .statusReq => .empty
  | .statusRes => .empty
  | .setVariableReq => .setVar
  | .setVariableRes => .setVar
  | .getVariableReq => .getVar
  | .getVariableRes => .setVar
  | .syncClockReq => .empty
  | .syncClockRes => .empty
  | .dataReq => .empty
  | .dataRes => .data
  | .nodeInfoReq => .empty
  | .nodeInfoRes => .nodeInfo
  | .flashClearReq => .empty
  | .flashStatusRes => .flashStatus
  | .heartbeatReq => .heartbeat
  | .heartbeatRes => .heartbeat
  | .parameterSetReq => .parSet
  | .parameterSetConf => .parConf
  | .parameterSetLockReq => .parLock
  | .parameterSetLockConf => .parLockConf
  | .nodeInfoExtReq => .empty
  | .nodeInfoExtRes => .nodeInfoExt

/-- payload_size of a variant's row (R52, R70). -/
def Variant.payloadSize (v : Variant) : Nat := v.layout.payloadSize

/-- The direction attribute of R70: true for the twelve response-direction variants. It is static and is not the
identifier's direction bit. -/
def Variant.isResponse : Variant → Bool
  | .resetAllSettingsReq => false
  | .resetAllSettingsRes => true
  | .statusReq => false
  | .statusRes => true
  | .setVariableReq => false
  | .setVariableRes => true
  | .getVariableReq => false
  | .getVariableRes => true
  | .syncClockReq => false
  | .syncClockRes => true
  | .dataReq => false
  | .dataRes => true
  | .nodeInfoReq => false
  | .nodeInfoRes => true
  | .flashClearReq => false
  | .flashStatusRes => true
  | .heartbeatReq => false
  | .heartbeatRes => true
  | .parameterSetReq => false
  | .parameterSetConf => true
  | .parameterSetLockReq => false
  | .parameterSetLockConf => true
  | .nodeInfoExtReq => false
  | .nodeInfoExtRes => true

/-- The variant of a ChannelCommand value (R70). -/
def Instr.variant : Instr → Variant
  | .resetAllSettingsReq => .resetAllSettingsReq
  | .resetAllSettingsRes => .resetAllSettingsRes
  | .statusReq => .statusReq
  | .statusRes => .statusRes
  | .setVariableReq _ _ => .setVariableReq
  | .setVariableRes _ _ => .setVariableRes
  | .getVariableReq _ => .getVariableReq
  | .getVariableRes _ _ => .getVariableRes
  | .syncClockReq => .syncClockReq
  | .syncClockRes => .syncClockRes
  | .dataReq => .dataReq
  | .dataRes _ _ => .dataRes
  | .nodeInfoReq => .nodeInfoReq
  | .nodeInfoRes _ _ _ => .nodeInfoRes
  | .flashClearReq => .flashClearReq
  | .flashStatusRes _ => .flashStatusRes
  | .heartbeatReq _ => .heartbeatReq
  | .heartbeatRes _ => .heartbeatRes
  | .parameterSetReq _ _ => .parameterSetReq
  | .parameterSetConf _ _ _ => .parameterSetConf
  | .parameterSetLockReq _ _ => .parameterSetLockReq
  | .parameterSetLockConf _ _ _ => .parameterSetLockConf
  | .nodeInfoExtReq => .nodeInfoExtReq
  | .nodeInfoExtRes _ _ _ _ _ => .nodeInfoExtRes

/-- The first later row with an equal tag, over all pairs of rows in table order (R71). -/
def firstDuplicateTag (p : Params) : List Variant → Option Variant
  | [] => none
  | v :: vs =>
    match vs.find? (fun v' => p.tag v' == p.tag v) with
    | some v' => some v'
    | none => firstDuplicateTag p vs

/-- WIRE.CHECK (R71): `none` is ok, `some row` the first offending row. Every row is checked, none skipped. -/
def wireCheck (p : Params) : Option Variant :=
  match Variant.all.find? (fun v => 1 + v.payloadSize + p.pad v != p.wireSize) with
  | some v => some v
  | none => firstDuplicateTag p Variant.all

/-! ### One encode and one decode function per layout (R75) -/

/-- B_EMPTY has no field: no byte is written. -/
def encEmpty : List Byte := []
def encSetVar (id : Byte) (value : Word) : List Byte := id :: le32 value
def encGetVar (id : Byte) : List Byte := [id]
def encData (channelMask : Word) (data : Vector Byte 56) : List Byte := le32 channelMask ++ data.toList
def encNodeInfo (firmwareVersion channelMask : Word) (channelType : Vector Byte 32) : List Byte :=
  le32 firmwareVersion ++ le32 channelMask ++ channelType.toList
def encFlashStatus (status : Byte) : List Byte := [status]
def encHeartbeat (counter : Word) : List Byte := le32 counter
def encParSet (id : Byte) (value : Word) : List Byte := id :: le32 value
def encParConf (id status : Byte) (value : Word) : List Byte := id :: status :: le32 value
def encParLock (id : Byte) (lock : Bool) : List Byte := [id, boolByte lock]
def encParLockConf (id status : Byte) (lock : Bool) : List Byte := [id, status, boolByte lock]
def encNodeInfoExt (telCount parCount : Byte) (firmwareHash liquidHash : Word) (deviceName : Vector Byte 52) :
    List Byte :=
  telCount :: parCount :: (le32 firmwareHash ++ le32 liquidHash ++ deviceName.toList)

/-- B_EMPTY has no field: no byte is read. -/
def decEmpty (_b : List Byte) : Unit := ()
def decSetVar (b : List Byte) : Byte × Word := (u8At b 0, u32At b 1)
def decGetVar (b : List Byte) : Byte := u8At b 0
def decData (b : List Byte) : Word × Vector Byte 56 := (u32At b 0, bytesAt 56 b 4)
def decNodeInfo (b : List Byte) : Word × Word × Vector Byte 32 := (u32At b 0, u32At b 4, bytesAt 32 b 8)
def decFlashStatus (b : List Byte) : Byte := u8At b 0
def decHeartbeat (b : List Byte) : Word := u32At b 0
def decParSet (b : List Byte) : Byte × Word := (u8At b 0, u32At b 1)
def decParConf (b : List Byte) : Byte × Byte × Word := (u8At b 0, u8At b 1, u32At b 2)
def decParLock (b : List Byte) : Byte × Bool := (u8At b 0, boolAt b 1)
def decParLockConf (b : List Byte) : Byte × Byte × Bool := (u8At b 0, u8At b 1, boolAt b 2)
def decNodeInfoExt (b : List Byte) : Byte × Byte × Word × Word × Vector Byte 52 :=
  (u8At b 0, u8At b 1, u32At b 2, u32At b 6, bytesAt 52 b 10)

/-- The fields of a command in declared order, without the pad (R53, R73). -/
def encodeFields : Instr → List Byte
  | .resetAllSettingsReq => encEmpty
  | .resetAllSettingsRes => encEmpty
  | .statusReq => encEmpty
  | .statusRes => encEmpty
  | .setVariableReq id value => encSetVar id value
  | .setVariableRes id value => encSetVar id value
  | .getVariableReq id => encGetVar id
  | .getVariableRes id value => encSetVar id value
  | .syncClockReq => encEmpty
  | .syncClockRes => encEmpty
  | .dataReq => encEmpty
  | .dataRes mask data => encData mask data
  | .nodeInfoReq => encEmpty
  | .nodeInfoRes fw mask ct => encNodeInfo fw mask ct
  | .flashClearReq => encEmpty
  | .flashStatusRes st => encFlashStatus st
  | .heartbeatReq c => encHeartbeat c
  | .heartbeatRes c => encHeartbeat c
  | .parameterSetReq id value => encParSet id value
  | .parameterSetConf id st value => encParConf id st value
  | .parameterSetLockReq id lock => encParLock id lock
  | .parameterSetLockConf id st lock => encParLockConf id st lock
  | .nodeInfoExtReq => encEmpty
  | .nodeInfoExtRes tc pc fh lh name => encNodeInfoExt tc pc fh lh name

/-- The command of a variant whose fields stand at the start of `b` (R74): the inverse of `encodeFields`. Bytes after
the fields (the pad) are not read. -/
def decodeFields (v : Variant) (b : List Byte) : Instr :=
  match v with
  | .resetAllSettingsReq => let () := decEmpty b; .resetAllSettingsReq
  | .resetAllSettingsRes => let () := decEmpty b; .resetAllSettingsRes
  | .statusReq => let () := decEmpty b; .statusReq
  | .statusRes => let () := decEmpty b; .statusRes
  | .setVariableReq => let (id, value) := decSetVar b; .setVariableReq id value
  | .setVariableRes => let (id, value) := decSetVar b; .setVariableRes id value
  | .getVariableReq => .getVariableReq (decGetVar b)
  | .getVariableRes => let (id, value) := decSetVar b; .getVariableRes id value
  | .syncClockReq => let () := decEmpty b; .syncClockReq
  | .syncClockRes => let () := decEmpty b; .syncClockRes
  | .dataReq => let () := decEmpty b; .dataReq
  | .dataRes => let (mask, data) := decData b; .dataRes mask data
  | .nodeInfoReq => let () := decEmpty b; .nodeInfoReq
  | .nodeInfoRes => let (fw, mask, ct) := decNodeInfo b; .nodeInfoRes fw mask ct
  | .flashClearReq => let () := decEmpty b; .flashClearReq
  | .flashStatusRes => .flashStatusRes (decFlashStatus b)
  | .heartbeatReq => .heartbeatReq (decHeartbeat b)
  | .heartbeatRes => .heartbeatRes (decHeartbeat b)
  | .parameterSetReq => let (id, value) := decParSet b; .parameterSetReq id value
  | .parameterSetConf => let (id, st, value) := decParConf b; .parameterSetConf id st value
  | .parameterSetLockReq => let (id, lock) := decParLock b; .parameterSetLockReq id lock
  | .parameterSetLockConf => let (id, st, lock) := decParLockConf b; .parameterSetLockConf id st lock
  | .nodeInfoExtReq => let () := decEmpty b; .nodeInfoExtReq
  | .nodeInfoExtRes => let (tc, pc, fh, lh, name) := decNodeInfoExt b; .nodeInfoExtRes tc pc fh lh name

/-! ### WIRE.DEC and the frame decoder -/

/-- The row whose tag equals `t` (R72, R74): at most one when WIRE.CHECK is ok; else the first (log 18). -/
def variantOfTag (p : Params) (t : Byte) : Option Variant := Variant.all.find? fun v => p.tag v == t

/-- WIRE.DEC (R74), on a byte sequence of any length; the failures in the order of R74. -/
def wireDec (p : Params) (w : List Byte) : Except DecodeError Instr :=
  match w with
  | [] => .error (.shortPayload none 0 1)
  | t :: body =>
    match variantOfTag p t with
    | none => .error (.unknownTag t)
    | some v =>
      if body.length < v.payloadSize then .error (.shortPayload (some t) body.length v.payloadSize)
      else .ok (decodeFields v body)

/-- Steps 2, 4 and 5 of FRAME_STEP (R91): the command in a frame's data field, or the first failure in the order of
R154. Total on any bytes. -/
def decodeFrame (p : Params) (data : List Byte) : Except DecodeError Instr :=
  match envUnpack data with
  | .error e => .error e
  | .ok env =>
    if env.channelId = p.genericChannelId then wireDec p (env.commandId :: env.payload.toList)
    else .error (.unknownChannel env.channelId)

/-! ### The encoder -/

/-- WIRE.ENC (R73): the tag, the fields, then zero to WIRE_SIZE bytes. Total, never fails. -/
def wireEnc (p : Params) (i : Instr) : List Byte :=
  let fields := encodeFields i
  p.tag i.variant :: fields ++ List.replicate (p.wireSize - (1 + fields.length)) 0

/-- The data field of a frame that carries `w`, a WireCommand, under a channel and a buffer type (R65, R98). -/
def wrapWire (channelId : BitVec 6) (bufferType : BufferType) (w : List Byte) : Vector Byte 64 :=
  envPack channelId bufferType (u8At w 0) (w.drop 1)

/-- The encoder: the 64 data bytes of a command on the generic channel, buffer type Direct (R52, R58). -/
def encode (p : Params) (i : Instr) : Vector Byte 64 := wrapWire p.genericChannelId .direct (wireEnc p i)

/-! ### Opcode-table words -/

/-- The 64 data bytes whose first bytes are the low `nbits` bits of `w`, byte k holding bits 8k+7..8k; the rest zero.
The table numbers its header as `frame[0] | (frame[1] << 8)` (R52). -/
def tableWordBytes (nbits w : Nat) : List Byte := leBytes 64 (w % 2 ^ nbits)

/-- What the decoder reads from an opcode-table word, at the default parameters (R4, R52). -/
def decodeTableWord (nbits w : Nat) : Option Instr :=
  match decodeFrame Params.default (tableWordBytes nbits w) with
  | .ok i => some i
  | .error _ => none

end Sys2Proof
end

