-- ==== Sys2Proof/WellFormed.lean ====
section
/-! DEFINITION. The static checks: the parameters (spec/00_scope.md R4), the configuration record (spec/10_state.md R23)
and an instruction within a configuration (spec/42_wire_codec.md R71). Field widths need no check: they are in the
types. -/

namespace Sys2Proof

/-- A configuration of parameters is well-formed when WIRE_SIZE is 1 + PAYLOAD_LEN = 63 and WIRE.CHECK passes, which
includes that the tags are pairwise distinct (R4, R71). The counts N_PAR and N_TEL are checked in `CfgRecord.wf`. -/
def Params.wf (p : Params) : Bool := p.wireSize == 63 && wireCheck p == none

/-- The bounds on the record of port CFG (R23): at most 53 name bytes, at most 255 parameters and telemetry values. A
record outside them is a ConfigError of the loader (U13). -/
def CfgRecord.wf (c : CfgRecord) : Bool :=
  decide (c.deviceName.length ≤ 53) && decide (c.par.length ≤ 255) && decide (c.tel.length ≤ 255)

/-- An instruction is well-formed in a configuration when its row fills the wire slot exactly (R71). -/
def Instr.wf (p : Params) (i : Instr) : Bool := 1 + i.variant.payloadSize + p.pad i.variant == p.wireSize

end Sys2Proof
end

