-- ==== Sys2Proof/Machine/State.lean ====
section
/-! DEFINITION. The state as plain data: the phase and register file of spec/10_state.md R28, the frame buffers of
spec/20_memory.md R30, the parameters of spec/00_scope.md R4, and the ports of spec/10_state.md R21 to R24 as the lists
a step reads and extends; the reasons a step can stop; the state after reset. -/

namespace Sys2Proof.Machine

/-- The lifecycle phase (R10). -/
inductive Phase where
  | reset | idle | failed
deriving DecidableEq, Repr

/-- A received frame (R21). When `ext` is false the environment guarantees `id < 2^11`; the upper bits are not looked at
(log 20). R21 bounds the data to 0..64 bytes. DESIGN CHOICE (log 23): the list is not bounded, so longer data can be
presented too. -/
structure RxFrame where
  /-- True when the frame is CAN-FD framed. -/
  fd : Bool
  /-- True when the frame uses extended 29-bit addressing. -/
  ext : Bool
  id : BitVec 29
  data : List Byte
deriving DecidableEq, Repr

/-- What port RX delivers (R21). -/
inductive RxEvent where
  | rxError
  | rxFrame (f : RxFrame)
deriving DecidableEq, Repr

/-- The environment's answer to a TX frame (R22). -/
inductive TxAnswer where
  | ok | transportError
deriving DecidableEq, Repr

/-- One RX event together with the answer the environment will give if that frame step sends: the inputs `ev` and
`ans` of FRAME_STEP (R91, log 1). -/
structure Arrival where
  event : RxEvent
  answer : TxAnswer
deriving DecidableEq, Repr

/-- What port TX carries (R22): always CAN-FD, standard-addressed, 64 bytes. -/
structure TxFrame where
  arbId : BitVec 11
  data : Vector Byte 64
deriving DecidableEq, Repr

/-- A frame handed to TX and the answer it got; a frame answered with transportError is lost (R102). -/
structure TxRecord where
  frame : TxFrame
  answer : TxAnswer
deriving DecidableEq, Repr

/-- One event on port DIAG with its info (R24, R151). -/
inductive DiagEvent where
  /-- Code 1, E_TRANSPORT_READ. -/
  | transportRead
  /-- Codes 2 to 6, the DecodeErrors. -/
  | decode (e : DecodeError)
  /-- Code 7, E_ID_OUT_OF_RANGE. -/
  | encode (e : EncodeError)
  /-- Code 8, E_TRANSPORT_WRITE. -/
  | transportWrite
  /-- Code 9, W_UNEXPECTED_RESPONSE; the tag. -/
  | unexpectedResponse (tag : Byte)
  /-- Code 10, F_TRANSPORT_OPEN. -/
  | transportOpen
  /-- Code 11, F_CONFIG. -/
  | config
  /-- Code 12, F_SIZE_CHECK; the offending row. -/
  | sizeCheck (row : Variant)
deriving DecidableEq, Repr

/-- The whole machine: spec state, buffers, parameters, ports, and the model's own latches and counters. -/
structure State where
  /-- The parameters of R4 (log 3). Constant during a run. -/
  params : Params
  /-- R10. -/
  phase : Phase
  /-- frame_index (R12, log 12): the number of frame steps since reset. -/
  frameIndex : Nat
  /-- The register file (R28). -/
  regs : Regs
  /-- RXB, the receive frame buffer (R30). -/
  rxb : Vector Byte 64
  /-- TXB, the transmit frame buffer (R30). -/
  txb : Vector Byte 64
  /-- Model's latch: `id[10:0]` of the frame in RXB (R30, R95, log 17). -/
  rxId : BitVec 11
  /-- Model's latch: the TX answer of the running frame step (R91, log 17). -/
  txAnswer : TxAnswer
  /-- Port RX: the events still to come, in arrival order (R21, log 1). -/
  rx : List Arrival
  /-- Port TX: every frame handed over, oldest first (R22, log 2). -/
  tx : List TxRecord
  /-- Port DIAG: every event, oldest first (R24, log 2). -/
  diag : List DiagEvent
  /-- Port CFG (R23), read in phase RESET only. -/
  cfg : CfgResult
  /-- The transport-open result (R170), read in phase RESET only. -/
  transportOpens : Bool
  /-- Model's counter of free values (log 6). -/
  freeIndex : Nat
deriving DecidableEq, Repr

/-- Why the machine stops. -/
inductive Fault where
  /-- Raised by `step` in phase FAILED and by nothing else: a fatal start-up failure has happened and "no step is
  defined from FAILED" (R171, U15). Safe: the model has no run where the hardware has none. -/
  | startupFailed
deriving DecidableEq, Repr

/-- Why an instruction has no meaning. -/
inductive Refusal where
  /-- Raised by an arm of `exec` whose instruction has no meaning yet. No arm raises it now. Safe. -/
  | notModelled (mnemonic : String)
deriving DecidableEq, Repr

/-- Every slot absent, every scalar zero, both tables empty: the register file that R27 gives for `CfgRecord.empty`. -/
def clearedRegs : Regs where
  var := Vector.replicate 256 none
  reqdata := none
  nodeinfo := none
  flashstatus := none
  nodeId := 0
  frequency := 0
  firmwareHash := 0
  liquidHash := 0
  deviceName := Vector.replicate 53 0
  par := []
  tel := []

/-- Right after a successful reset (R27, R173): phase IDLE, every register as the configuration gives it, no event
delivered yet. DESIGN CHOICE (logs 3, 4, 5, 12): default parameters, the empty configuration, buffers and latches zero. -/
def State.reset : State where
  params := .default
  phase := .idle
  frameIndex := 0
  regs := clearedRegs
  rxb := Vector.replicate 64 0
  txb := Vector.replicate 64 0
  rxId := 0
  txAnswer := .ok
  rx := []
  tx := []
  diag := []
  cfg := .record .empty
  transportOpens := true
  freeIndex := 0

end Sys2Proof.Machine
end

