-- ==== Sys2Proof/Machine/Flags.lean ====
section
/-! DEFINITION. The one-bit state. ECU-CORE has no condition codes and no flags set as a side effect (spec/10_state.md
R13); it has the lock flag of each parameter and the present bits of VAR and of the slot registers. -/

namespace Sys2Proof.Machine

/-- The lock flag of `PAR[i]` as PARAMETER_SET_REQ reads it (R13, R128). An entry that does not exist has none: false,
and PAR.EXISTS is asked before. -/
def parLocked (s : State) (id : Byte) : Bool :=
  match s.regs.par[id.toNat]? with
  | some e => e.locked
  | none => false

/-- The present bit of `VAR[i]` (R11, R13). -/
def varPresent (s : State) (id : Byte) : Bool := (s.regs.var[id.toNat]'(id.isLt)).isSome

/-- The present bit of REQDATA (R15). -/
def reqdataPresent (s : State) : Bool := s.regs.reqdata.isSome

/-- The present bit of NODEINFO (R16). -/
def nodeinfoPresent (s : State) : Bool := s.regs.nodeinfo.isSome

/-- The present bit of FLASHSTATUS (R17). -/
def flashstatusPresent (s : State) : Bool := s.regs.flashstatus.isSome

end Sys2Proof.Machine
end

