-- ==== Sys2Proof/Machine/Operands.lean ====
section
/-! DEFINITION. What a handler's response is built from besides the command's own fields: the parts of the received
frame that are still readable while the step runs (spec/30_encoding.md R54). The command's own operands are assembled by
the decoder at their fixed offsets (Decode.lean); there is no other operand form (spec/46_state_operators.md). -/

namespace Sys2Proof.Machine

/-- The identifier of the frame being served: `ID.UNPACK(zext_16(id[10:0]))` (R95). -/
def rxMid (s : State) : MessageIdentifier := idUnpack (s.rxId.setWidth 16)

/-- channel_id of the frame in RXB: `rxb[0] & 0x3F` (R54). -/
def rxChannelId (s : State) : BitVec 6 := channelOf s.rxb[0]

/-- buffer_type of the frame in RXB: `rxb[0] >> 6` (R54). Carried, never interpreted (R100). -/
def rxBufferType (s : State) : BufferType := bufferTypeOf s.rxb[0]

/-- The status byte of a confirmation: Success (R55). -/
def statusSuccess : Byte := 0

/-- The status byte of a confirmation: InvalidParameterID (R55). -/
def statusInvalidParameterID : Byte := 1

/-- The status byte of a confirmation: ParameterLocked (R55). -/
def statusParameterLocked : Byte := 2

end Sys2Proof.Machine
end

