-- ==== Sys2Proof/Machine/Ops.lean ====
section
/-! DEFINITION. The shared operations: the state operators on the register file (spec/46_state_operators.md), dropping a
frame (spec/60_exceptions.md R150, R155), building and sending the one response (spec/43_dispatch.md R98 to R102), and
ignoring a response-direction command (R97). -/

namespace Sys2Proof.Machine

/-! ### Port DIAG -/

/-- The numeric code of a DIAG event (R151). -/
def DiagEvent.code : DiagEvent → BitVec 8
  | .transportRead => 1
  | .decode (.frameKind _ _) => 2
  | .decode (.length _) => 3
  | .decode (.unknownChannel _) => 4
  | .decode (.unknownTag _) => 5
  | .decode (.shortPayload _ _ _) => 6
  | .encode (.outOfRange _) => 7
  | .transportWrite => 8
  | .unexpectedResponse _ => 9
  | .transportOpen => 10
  | .config => 11
  | .sizeCheck _ => 12

/-- `diag(code, info)` (R6): one event on port DIAG, no effect on anything else (R24). -/
def emitDiag (e : DiagEvent) (s : State) : State := { s with diag := s.diag ++ [e] }

/-- TAKING AN EXCEPTION, as ECU-CORE has it: `raise DecodeError.K(info)` (R6, R150, R155). One DIAG event; no register
write, no TX frame; nothing is saved, since there is no context to save, and the engine is back at its waiting point. The
return (R156) is implicit and immediate: the step is over, nothing is restored. -/
def dropFrame (e : DecodeError) (s : State) : State := emitDiag (.decode e) s

/-! ### The flat mapping: VAR and the slot registers (R136 to R140) -/

/-- A register of the flat mapping (R136). -/
inductive FlatReg where
  | var (id : Byte)
  | reqdata
  | nodeinfo
  | flashstatus
deriving DecidableEq, Repr

/-- What a register of the flat mapping holds when present: exactly its own width (R136). -/
abbrev FlatReg.Value : FlatReg → Type
  | .var _ => Word
  | .reqdata => Vector Byte 60
  | .nodeinfo => Vector Byte 40
  | .flashstatus => Byte

/-- RF.SET (R136): the register takes the value and becomes present. -/
def rfSet (r : FlatReg) (v : r.Value) (s : State) : State :=
  match r, v with
  | .var id, v => { s with regs := { s.regs with var := s.regs.var.set id.toNat (some v) id.isLt } }
  | .reqdata, v => { s with regs := { s.regs with reqdata := some v } }
  | .nodeinfo, v => { s with regs := { s.regs with nodeinfo := some v } }
  | .flashstatus, v => { s with regs := { s.regs with flashstatus := some v } }

/-- RF.GET (R137): no side effect; an absent register stays absent. -/
def rfGet (r : FlatReg) (s : State) : Option r.Value :=
  match r with
  | .var id => s.regs.var[id.toNat]'(id.isLt)
  | .reqdata => s.regs.reqdata
  | .nodeinfo => s.regs.nodeinfo
  | .flashstatus => s.regs.flashstatus

/-- RF.GET_U8_OR_ZERO on FLASHSTATUS (R138). -/
def rfGetU8OrZero (s : State) : Byte := (rfGet .flashstatus s).getD 0

/-- RF.GET_U32_OR_ZERO on `VAR[id]` (R139). -/
def rfGetU32OrZero (id : Byte) (s : State) : Word := (rfGet (.var id) s).getD 0

/-- RF.GET_BYTES_OR_ZEROS<60> on REQDATA (R140). -/
def rfGetReqdataOrZeros (s : State) : Vector Byte 60 := (rfGet .reqdata s).getD (Vector.replicate 60 0)

/-- RF.GET_BYTES_OR_ZEROS<40> on NODEINFO (R140). -/
def rfGetNodeinfoOrZeros (s : State) : Vector Byte 40 := (rfGet .nodeinfo s).getD (Vector.replicate 40 0)

/-! ### The parameter and telemetry tables (R141 to R144) -/

/-- PAR.EXISTS (R141): `id < N_PAR`. -/
def parExists (id : Byte) (s : State) : Bool := decide (id.toNat < s.regs.par.length)

/-- PAR.LOOKUP (R141). -/
def parLookup (id : Byte) (s : State) : Option ParEntry := if parExists id s then s.regs.par[id.toNat]? else none

/-- PAR.SET_VALUE (R142): the lock test is the handler's. -/
def parSetValue (id : Byte) (value : Word) (s : State) : State :=
  { s with regs := { s.regs with par := s.regs.par.modify id.toNat fun e => { e with value := value } } }

/-- PAR.SET_LOCK (R143): unconditional, no ownership check. -/
def parSetLock (id : Byte) (lock : Bool) (s : State) : State :=
  { s with regs := { s.regs with par := s.regs.par.modify id.toNat fun e => { e with locked := lock } } }

/-- PAR.COUNT (R144). -/
def parCount (s : State) : Byte := BitVec.ofNat 8 s.regs.par.length

/-- TEL.COUNT (R144). -/
def telCount (s : State) : Byte := BitVec.ofNat 8 s.regs.tel.length

/-- `DEVICE_NAME[0..51]` (R132): register byte 52 is never transmitted. -/
def deviceNameSent (s : State) : Vector Byte 52 := bytesAt 52 s.regs.deviceName.toList 0

/-! ### The response (R98 to R102) -/

/-- The response identifier (R99): the request's node_id, special_cmd and priority, direction NodeToMaster. -/
def responseId (s : State) : BitVec 16 := idPack { rxMid s with direction := .nodeToMaster }

/-- The response data (R98): WIRE.ENC in ENV.PACK, the request's channel_id, buffer type RESP_BUFFER_TYPE. -/
def responseData (resp : Instr) (s : State) : Vector Byte 64 :=
  wrapWire (rxChannelId s) s.params.respBufferType (wireEnc s.params resp)

/-- Hand a frame to TX (R101, R102): a send that the environment refuses drops that response, is logged, and leaves
everything else, the handler's write among it, as it is. -/
def sendFrame (f : TxFrame) (s : State) : State :=
  let sent := { s with txb := f.data, tx := s.tx ++ [{ frame := f, answer := s.txAnswer }] }
  match s.txAnswer with
  | .ok => sent
  | .transportError => emitDiag .transportWrite sent

/-- `respond(cmd)` (R6, step 7 of R91). The error branch of ID.TOARB is unreachable (R63); were it reached, the failure
would be logged under code 7 and nothing sent (U2). -/
def respond (resp : Instr) (s : State) : State :=
  match idToArb (responseId s) with
  | .ok arb => sendFrame { arbId := arb, data := responseData resp s } s
  | .error e => emitDiag (.encode e) s

/-- A response-direction command received (R97, R103): no register, no TX frame, one DIAG event with its tag. -/
def ignoreResponse (v : Variant) (s : State) : State := emitDiag (.unexpectedResponse (s.params.tag v)) s

end Sys2Proof.Machine
end

