-- ==== Sys2Proof/Machine/Acknowledge.lean ====
section
/-! DEFINITION. The commands without operands that are answered by an empty acknowledgement, and their responses when
received: RESET_ALL_SETTINGS, STATUS, SYNC_CLOCK (spec/44_generic_commands.md R110 to R113, R118, R119). -/

namespace Sys2Proof.Machine

/-- R110: "(stub / no-op)"; no register is cleared, restored or unlocked. -/
def execResetAllSettingsReq (s : State) : Host.Outcome State Fault Refusal :=
  .next (respond .resetAllSettingsRes s)

/-- R111. -/
def execResetAllSettingsRes (s : State) : Host.Outcome State Fault Refusal :=
  .next (ignoreResponse .resetAllSettingsRes s)

/-- R112: an "ack stub" that carries no status. -/
def execStatusReq (s : State) : Host.Outcome State Fault Refusal :=
  .next (respond .statusRes s)

/-- R113. -/
def execStatusRes (s : State) : Host.Outcome State Fault Refusal :=
  .next (ignoreResponse .statusRes s)

/-- R118: no clock exists to synchronise; orders nothing (R40). -/
def execSyncClockReq (s : State) : Host.Outcome State Fault Refusal :=
  .next (respond .syncClockRes s)

/-- R119. -/
def execSyncClockRes (s : State) : Host.Outcome State Fault Refusal :=
  .next (ignoreResponse .syncClockRes s)

end Sys2Proof.Machine
end

