-- ==== Sys2Proof/Machine/Heartbeat.lean ====
section
/-! DEFINITION. HEARTBEAT and its response when received (spec/45_typed_commands.md R126, R127). -/

namespace Sys2Proof.Machine

/-- R126: the answer is the operand plus one modulo 2^32; no counter is kept. -/
def execHeartbeatReq (counter : Word) (s : State) : Host.Outcome State Fault Refusal :=
  .next (respond (.heartbeatRes (counter + 1)) s)

/-- R127. -/
def execHeartbeatRes (_counter : Word) (s : State) : Host.Outcome State Fault Refusal :=
  .next (ignoreResponse .heartbeatRes s)

end Sys2Proof.Machine
end

