-- ==== Sys2Proof/Machine/NodeInfoExt.lean ====
section
/-! DEFINITION. Extended node information and its response when received (spec/45_typed_commands.md R132, R133). -/

namespace Sys2Proof.Machine

/-- R132: the table counts, the two hashes, the first 52 bytes of DEVICE_NAME (C5). -/
def execNodeInfoExtReq (s : State) : Host.Outcome State Fault Refusal :=
  .next (respond
    (.nodeInfoExtRes (telCount s) (parCount s) s.regs.firmwareHash s.regs.liquidHash (deviceNameSent s)) s)

/-- R133: no register is written. -/
def execNodeInfoExtRes (_telCount _parCount : Byte) (_firmwareHash _liquidHash : Word) (_deviceName : Vector Byte 52)
    (s : State) : Host.Outcome State Fault Refusal :=
  .next (ignoreResponse .nodeInfoExtRes s)

end Sys2Proof.Machine
end

