-- ==== Sys2Proof/Machine/Parameters.lean ====
section
/-! DEFINITION. Parameter write and parameter lock and their confirmations when received (spec/45_typed_commands.md R128
to R131). An invalid id or a locked parameter is an ordinary answer, not a failure (spec/60_exceptions.md R152). -/

namespace Sys2Proof.Machine

/-- R128: unknown id, then locked, then the write; the value field is 0 unless the write succeeded (C6, D11). -/
def execParameterSetReq (id : Byte) (value : Word) (s : State) : Host.Outcome State Fault Refusal :=
  if !parExists id s then .next (respond (.parameterSetConf id statusInvalidParameterID 0) s)
  else if parLocked s id then .next (respond (.parameterSetConf id statusParameterLocked 0) s)
  else .next (respond (.parameterSetConf id statusSuccess value) (parSetValue id value s))

/-- R129: any status byte; no parameter is written. -/
def execParameterSetConf (_id _status : Byte) (_value : Word) (s : State) : Host.Outcome State Fault Refusal :=
  .next (ignoreResponse .parameterSetConf s)

/-- R130: the lock is written whoever asks, locked or not. -/
def execParameterSetLockReq (id : Byte) (lock : Bool) (s : State) : Host.Outcome State Fault Refusal :=
  if !parExists id s then .next (respond (.parameterSetLockConf id statusInvalidParameterID false) s)
  else .next (respond (.parameterSetLockConf id statusSuccess lock) (parSetLock id lock s))

/-- R131: no lock flag is written. -/
def execParameterSetLockConf (_id _status : Byte) (_lock : Bool) (s : State) : Host.Outcome State Fault Refusal :=
  .next (ignoreResponse .parameterSetLockConf s)

end Sys2Proof.Machine
end

