-- ==== Sys2Proof/Machine/Slots.lean ====
section
/-! DEFINITION. The configured-slot reads: DATA, NODE_INFO, FLASH_CLEAR and their responses when received
(spec/44_generic_commands.md R120 to R125). -/

namespace Sys2Proof.Machine

/-- R120: channel_mask is bytes 0..3 of REQDATA, data is bytes 4..59. -/
def execDataReq (s : State) : Host.Outcome State Fault Refusal :=
  let b := (rfGetReqdataOrZeros s).toList
  .next (respond (.dataRes (u32At b 0) (bytesAt 56 b 4)) s)

/-- R121: REQDATA is not written. -/
def execDataRes (_channelMask : Word) (_data : Vector Byte 56) (s : State) : Host.Outcome State Fault Refusal :=
  .next (ignoreResponse .dataRes s)

/-- R122: firmware_version is bytes 0..3 of NODEINFO, channel_mask 4..7, channel_type 8..39. -/
def execNodeInfoReq (s : State) : Host.Outcome State Fault Refusal :=
  let b := (rfGetNodeinfoOrZeros s).toList
  .next (respond (.nodeInfoRes (u32At b 0) (u32At b 4) (bytesAt 32 b 8)) s)

/-- R123. -/
def execNodeInfoRes (_firmwareVersion _channelMask : Word) (_channelType : Vector Byte 32) (s : State) :
    Host.Outcome State Fault Refusal :=
  .next (ignoreResponse .nodeInfoRes s)

/-- R124: clears nothing. -/
def execFlashClearReq (s : State) : Host.Outcome State Fault Refusal :=
  .next (respond (.flashStatusRes (rfGetU8OrZero s)) s)

/-- R125: FLASHSTATUS is not written. -/
def execFlashStatusRes (_status : Byte) (s : State) : Host.Outcome State Fault Refusal :=
  .next (ignoreResponse .flashStatusRes s)

end Sys2Proof.Machine
end

