-- ==== Sys2Proof/Machine/Variables.lean ====
section
/-! DEFINITION. Variable access: SET_VARIABLE and GET_VARIABLE and their responses when received
(spec/44_generic_commands.md R114 to R117). -/

namespace Sys2Proof.Machine

/-- R114: the write is made before the response is handed to TX (R36). -/
def execSetVariableReq (id : Byte) (value : Word) (s : State) : Host.Outcome State Fault Refusal :=
  .next (respond (.setVariableRes id value) (rfSet (.var id) value s))

/-- R115: `VAR[id]` is not written. -/
def execSetVariableRes (_id : Byte) (_value : Word) (s : State) : Host.Outcome State Fault Refusal :=
  .next (ignoreResponse .setVariableRes s)

/-- R116: an absent variable reads as 0 and stays absent. -/
def execGetVariableReq (id : Byte) (s : State) : Host.Outcome State Fault Refusal :=
  .next (respond (.getVariableRes id (rfGetU32OrZero id s)) s)

/-- R117. -/
def execGetVariableRes (_id : Byte) (_value : Word) (s : State) : Host.Outcome State Fault Refusal :=
  .next (ignoreResponse .getVariableRes s)

end Sys2Proof.Machine
end

