-- ==== Sys2Proof/Machine/Dispatch.lean ====
section
/-! DEFINITION. The handler table (spec/43_dispatch.md R103): one arm per command variant, no default. -/

namespace Sys2Proof.Machine

/-- HANDLE with step 7 of FRAME_STEP (R91, R103): what the command does and the response it sends. -/
def exec (i : Instr) (s : State) : Host.Outcome State Fault Refusal :=
  match i with
  | .resetAllSettingsReq => Sys2Proof.Machine.execResetAllSettingsReq s
  | .resetAllSettingsRes => Sys2Proof.Machine.execResetAllSettingsRes s
  | .statusReq => Sys2Proof.Machine.execStatusReq s
  | .statusRes => Sys2Proof.Machine.execStatusRes s
  | .setVariableReq id value => Sys2Proof.Machine.execSetVariableReq id value s
  | .setVariableRes id value => Sys2Proof.Machine.execSetVariableRes id value s
  | .getVariableReq id => Sys2Proof.Machine.execGetVariableReq id s
  | .getVariableRes id value => Sys2Proof.Machine.execGetVariableRes id value s
  | .syncClockReq => Sys2Proof.Machine.execSyncClockReq s
  | .syncClockRes => Sys2Proof.Machine.execSyncClockRes s
  | .dataReq => Sys2Proof.Machine.execDataReq s
  | .dataRes channelMask data => Sys2Proof.Machine.execDataRes channelMask data s
  | .nodeInfoReq => Sys2Proof.Machine.execNodeInfoReq s
  | .nodeInfoRes firmwareVersion channelMask channelType => Sys2Proof.Machine.execNodeInfoRes firmwareVersion channelMask channelType s
  | .flashClearReq => Sys2Proof.Machine.execFlashClearReq s
  | .flashStatusRes status => Sys2Proof.Machine.execFlashStatusRes status s
  | .heartbeatReq counter => Sys2Proof.Machine.execHeartbeatReq counter s
  | .heartbeatRes counter => Sys2Proof.Machine.execHeartbeatRes counter s
  | .parameterSetReq id value => Sys2Proof.Machine.execParameterSetReq id value s
  | .parameterSetConf id status value => Sys2Proof.Machine.execParameterSetConf id status value s
  | .parameterSetLockReq id lock => Sys2Proof.Machine.execParameterSetLockReq id lock s
  | .parameterSetLockConf id status lock => Sys2Proof.Machine.execParameterSetLockConf id status lock s
  | .nodeInfoExtReq => Sys2Proof.Machine.execNodeInfoExtReq s
  | .nodeInfoExtRes telCount parCount firmwareHash liquidHash deviceName => Sys2Proof.Machine.execNodeInfoExtRes telCount parCount firmwareHash liquidHash deviceName s

end Sys2Proof.Machine
end

