-- ==== Sys2Proof/Machine/Frame.lean ====
section
/-! DEFINITION. Taking an RX event: steps 1 to 5 of FRAME_STEP (spec/43_dispatch.md R91 to R97), and the frame an
opcode-table word stands for. -/

namespace Sys2Proof.Machine

/-- Steps 1 to 5 of R91 on a received frame: the frame kind first, nothing else of a wrong kind is looked at (R93). -/
def receiveFrame (p : Params) (f : RxFrame) : Except DecodeError Instr :=
  if !f.fd || f.ext then .error (.frameKind f.fd f.ext) else decodeFrame p f.data

/-- The event is taken from port RX: one event per frame step, executed or dropped (R12, R90). -/
def takeArrival (a : Arrival) (rest : List Arrival) (s : State) : State :=
  { s with rx := rest, frameIndex := s.frameIndex + 1, txAnswer := a.answer }

/-- RXB receives the data once its length has been found to be 64 (R30, R66, R94), the latch its identifier (R95). A
frame of the wrong kind or length leaves both as they were (log 11). -/
def latchFrame (f : RxFrame) (s : State) : State :=
  if f.fd && !f.ext && decide (f.data.length = 64) then
    { s with rxb := frameBuffer f.data, rxId := f.id.extractLsb' 0 11 }
  else s

/-- What the engine finds at its waiting point. -/
inductive Fetched where
  /-- No event: the engine waits (R90, R166). -/
  | wait
  /-- The event was dropped: the state after it (R92, R150). -/
  | dropped (s : State)
  /-- The event carries a command: run it in this state. -/
  | run (i : Instr) (s : State)
deriving DecidableEq, Repr

/-- Take the next RX event (R90 to R97). -/
def fetch (s : State) : Fetched :=
  match s.rx with
  | [] => .wait
  | a :: rest =>
    let taken := takeArrival a rest s
    match a.event with
    | .rxError => .dropped (emitDiag .transportRead taken)
    | .rxFrame f =>
      let latched := latchFrame f taken
      match receiveFrame s.params f with
      | .error e => .dropped (dropFrame e latched)
      | .ok i => .run i latched

/-- The frame an opcode-table word stands for: CAN-FD, standard identifier 0, the 64 data bytes of the word. -/
def tableWordFrame (nbits w : Nat) : RxFrame where
  fd := true
  ext := false
  id := 0
  data := tableWordBytes nbits w

/-- That frame as the next RX event, its response accepted by the transport. -/
def tableWordArrival (nbits w : Nat) : Arrival where
  event := .rxFrame (tableWordFrame nbits w)
  answer := .ok

end Sys2Proof.Machine
end

