-- ==== Sys2Proof/Machine/Reset.lean ====
section
/-! DEFINITION. The reset sequence (spec/70_reset_and_hazards.md R170, R171) and the reset values (spec/10_state.md R27). -/

namespace Sys2Proof.Machine

/-- The register file a configuration record gives (R27): absent keys stay absent, the name is left-aligned and
zero-filled to 53 bytes. -/
def loadRegs (c : CfgRecord) : Regs where
  var := c.var
  reqdata := c.reqdata
  nodeinfo := c.nodeinfo
  flashstatus := c.flashstatus
  nodeId := c.nodeId
  frequency := c.frequency
  firmwareHash := c.firmwareHash
  liquidHash := c.liquidHash
  deviceName := bytesAt 53 c.deviceName 0
  par := c.par
  tel := c.tel

/-- A fatal start-up failure (R171): phase FAILED, one DIAG event; no register has a defined value (log 6). -/
def failStartup (e : DiagEvent) (s : State) : State :=
  { s with
    phase := .failed
    diag := s.diag ++ [e]
    regs := Config.failedRegs s.freeIndex
    freeIndex := s.freeIndex + 1 }

/-- RESET (R170): size check, configuration, load, transport open, in that order. A record outside the bounds of R23 is
a ConfigError (U13). The first event after reset is frame 1 (R173). -/
def resetSequence (s : State) : State :=
  match wireCheck s.params with
  | some row => failStartup (.sizeCheck row) s
  | none =>
    match s.cfg with
    | .configError => failStartup .config s
    | .record c =>
      if !(s.params.wf && c.wf) then failStartup .config s
      else if !s.transportOpens then failStartup .transportOpen s
      else { s with phase := .idle, regs := loadRegs c, frameIndex := 0 }

/-- Power-on or external reset (R10): the environment's move, not a step. It fixes what ports CFG and transport-open
will deliver; the reset sequence is the next step. -/
def State.assertReset (cfg : CfgResult) (transportOpens : Bool) (s : State) : State :=
  { s with phase := .reset, cfg := cfg, transportOpens := transportOpens }

end Sys2Proof.Machine
end

