-- ==== Sys2Proof/Machine/Step.lean ====
section
/-! DEFINITION. One step of the machine (spec/10_state.md R10, spec/43_dispatch.md R90, R91). -/

namespace Sys2Proof.Machine

/-- In RESET the reset sequence; in FAILED none (R171); in IDLE one frame step, or a wait when no event has come. -/
def step (s : State) : Host.Outcome State Fault Refusal :=
  match s.phase with
  | .reset => .next (resetSequence s)
  | .failed => .fault .startupFailed
  | .idle =>
    match fetch s with
    | .wait => .next s
    | .dropped s' => .next s'
    | .run i s' => exec i s'

/-- `s` with an opcode-table word as the next event of port RX, in the serving phase (log 8). -/
def State.withFetchWord (s : State) (nbits w : Nat) : State :=
  { s with phase := .idle, rx := tableWordArrival nbits w :: s.rx }

end Sys2Proof.Machine
end

