-- ==== Sys2Proof/Safety.lean ====
section
/-! DEFINITION. The terms the statements use: what it is for a step to answer, to ignore, to drop a frame; what an
observer of the ports cannot tell apart; and the invariant of a safe run. They are written on bytes, bits and numbers as
the spec's tables give them, not with the operations of the model. -/

namespace Sys2Proof.Machine

/-- The four bytes of a u32 field in frame order: v[7:0], v[15:8], v[23:16], v[31:24] (spec/20_memory.md R32). -/
def wordBytes (v : Word) : List Byte :=
  [v.extractLsb' 0 8, v.extractLsb' 8 8, v.extractLsb' 16 8, v.extractLsb' 24 8]

/-- The number in bytes k..k+3 of a frame, byte k the least significant (spec/20_memory.md R32). -/
def leWordAt (b : List Byte) (k : Nat) : Word :=
  BitVec.ofNat 32 ((b.getD k 0).toNat + 256 * (b.getD (k + 1) 0).toNat + 65536 * (b.getD (k + 2) 0).toNat +
    16777216 * (b.getD (k + 3) 0).toNat)

/-- `b` is a 64-byte data field on the generic channel whose tag is that of `v` (spec/30_encoding.md R51, R52). Buffer
type and payload are not restricted. -/
structure FrameCarries (p : Params) (v : Variant) (b : List Byte) : Prop where
  length : b.length = 64
  channel : (b.getD 0 0).toNat % 64 = p.genericChannelId.toNat
  tag : b.getD 1 0 = p.tag v

/-- The offset, in the 63 bytes of a WireCommand, of the one bool field of a variant that has one (R53: `lock` at
payload offset 1 of B_PARLOCK and 2 of B_PARLOCKCONF). -/
def boolOffset : Variant → Option Nat
  | .parameterSetLockReq => some 2
  | .parameterSetLockConf => some 3
  | _ => none

/-- Byte k of a WireCommand after decoding and encoding again (spec/42_wire_codec.md R76): pad bytes become 0x00, a
non-zero bool byte becomes 0x01, every other byte stays. -/
def canonicalByte (v : Variant) (w : List Byte) (k : Nat) : Byte :=
  if 1 + v.payloadSize ≤ k then 0
  else if boolOffset v = some k ∧ w.getD k 0 ≠ 0 then 1
  else w.getD k 0

/-- Byte 0 of a response: the channel_id of the frame in RXB, and RESP_BUFFER_TYPE in bits 7:6 (spec/43_dispatch.md
R98). -/
def responseByte0 (s : State) : Byte :=
  BitVec.ofNat 8 (s.rxb[0].toNat % 64 + 64 * s.params.respBufferType.code.toNat)

/-- From `s` to `t` one response was handed to TX and no state but the register file was touched (R98 to R102): its
identifier is the request's with bit 0 set, its data are byte 0, the tag, the fields, then zero to 64 bytes. When the
environment refuses the frame one DIAG event is emitted. Every field but the register file, TXB and the two output ports
is as it was. -/
structure Answers (s t : State) (tag : Byte) (fields : List Byte) : Prop where
  sent : ∃ f : TxFrame, t.tx = s.tx ++ [{ frame := f, answer := s.txAnswer }] ∧ t.txb = f.data ∧
    f.arbId = s.rxId ||| 1 ∧
    f.data.toList = responseByte0 s :: tag :: (fields ++ List.replicate (62 - fields.length) 0)
  logged : t.diag = s.diag ++ (if s.txAnswer = .transportError then [.transportWrite] else [])
  rest : t = { s with regs := t.regs, txb := t.txb, tx := t.tx, diag := t.diag }

/-- The state in which the frame `f` is served, `b` being RXB: the event is taken, the frame latched (R90, R94, R95). -/
def served (s : State) (f : RxFrame) (ans : TxAnswer) (rest : List Arrival) (b : Vector Byte 64) : State :=
  { s with
    rx := rest
    frameIndex := s.frameIndex + 1
    txAnswer := ans
    rxb := b
    rxId := f.id.extractLsb' 0 11 }

/-- From `s` to `t` one event was dropped (R150): one DIAG event, no register written, nothing sent, the phase as it
was. RXB and the latches of the step, dead between steps (R25), are not compared. -/
structure Dropped (s t : State) (e : DiagEvent) : Prop where
  logged : t.diag = s.diag ++ [e]
  kept : t = { s with rx := s.rx.tail, frameIndex := s.frameIndex + 1, diag := t.diag, rxb := t.rxb, rxId := t.rxId,
                      txAnswer := t.txAnswer }

/-- The first of the four defects a frame can have, in the order of the engine's steps (spec/60_exceptions.md R154);
`none` when it has none of them. -/
def frameDefect (p : Params) (f : RxFrame) : Option DecodeError :=
  if f.fd = false ∨ f.ext = true then some (.frameKind f.fd f.ext)
  else if f.data.length ≠ 64 then some (.length f.data.length)
  else if (f.data.getD 0 0).toNat % 64 ≠ p.genericChannelId.toNat then
    some (.unknownChannel (BitVec.ofNat 6 (f.data.getD 0 0).toNat))
  else if Variant.all.all (fun v => p.tag v != f.data.getD 1 0) then some (.unknownTag (f.data.getD 1 0))
  else none

/-- The next event of port RX is a CAN-FD, standard-addressed frame whose data decode to `i`. -/
def Receives (s : State) (f : RxFrame) (i : Instr) : Prop :=
  ∃ ans rest, s.rx = { event := .rxFrame f, answer := ans } :: rest ∧ f.fd = true ∧ f.ext = false ∧
    decodeFrame s.params f.data = .ok i

/-- The reset sequence fails with `e` (spec/70_reset_and_hazards.md R171): phase FAILED, one DIAG event, no event taken,
nothing sent, and no step after it. -/
def FailsStartup (s : State) (e : DiagEvent) : Prop :=
  ∃ t, step s = .next t ∧ t.phase = .failed ∧ t.diag = s.diag ++ [e] ∧ t.rx = s.rx ∧ t.tx = s.tx ∧
    step t = .fault .startupFailed

/-- No sequence of frames tells the two states apart (spec/70_reset_and_hazards.md R185, spec/10_state.md R11, R14, R20):
every field but the register file is equal, and so are the register file's observable values. An absent register counts
as zero; byte 52 of the name, NODE_ID, FREQUENCY, the datatype labels and the telemetry values do not count. -/
structure Alike (s t : State) : Prop where
  outside : t = { s with regs := t.regs }
  var : ∀ id : Byte, (s.regs.var[id.toNat]'(id.isLt)).getD 0 = (t.regs.var[id.toNat]'(id.isLt)).getD 0
  reqdata : s.regs.reqdata.getD (Vector.replicate 60 0) = t.regs.reqdata.getD (Vector.replicate 60 0)
  nodeinfo : s.regs.nodeinfo.getD (Vector.replicate 40 0) = t.regs.nodeinfo.getD (Vector.replicate 40 0)
  flashstatus : s.regs.flashstatus.getD 0 = t.regs.flashstatus.getD 0
  firmwareHash : s.regs.firmwareHash = t.regs.firmwareHash
  liquidHash : s.regs.liquidHash = t.regs.liquidHash
  deviceName : s.regs.deviceName.toList.take 52 = t.regs.deviceName.toList.take 52
  par : s.regs.par.map (fun e => (e.value, e.locked)) = t.regs.par.map (fun e => (e.value, e.locked))
  tel : s.regs.tel.length = t.regs.tel.length

/-- The response of each request, `none` for the response-direction variants: the rows of the handler table
(spec/43_dispatch.md R103; R110 to R132). -/
def replyOf : Variant → Option Variant
  | .resetAllSettingsReq => some .resetAllSettingsRes
  | .statusReq => some .statusRes
  | .setVariableReq => some .setVariableRes
  | .getVariableReq => some .getVariableRes
  | .syncClockReq => some .syncClockRes
  | .dataReq => some .dataRes
  | .nodeInfoReq => some .nodeInfoRes
  | .flashClearReq => some .flashStatusRes
  | .heartbeatReq => some .heartbeatRes
  | .parameterSetReq => some .parameterSetConf
  | .parameterSetLockReq => some .parameterSetLockConf
  | .nodeInfoExtReq => some .nodeInfoExtRes
  | .resetAllSettingsRes => none
  | .statusRes => none
  | .setVariableRes => none
  | .getVariableRes => none
  | .syncClockRes => none
  | .dataRes => none
  | .nodeInfoRes => none
  | .flashStatusRes => none
  | .heartbeatRes => none
  | .parameterSetConf => none
  | .parameterSetLockConf => none
  | .nodeInfoExtRes => none

/-- A frame on port TX is a legal response in the configuration `p` (R97 to R99): direction bit set, RESP_BUFFER_TYPE in
byte 0, a response-direction command of the generic channel, zero pad. -/
def LegalResponse (p : Params) (f : TxFrame) : Prop :=
  f.arbId.getLsbD 0 = true ∧ bufferTypeOf f.data[0] = p.respBufferType ∧
    ∃ resp, resp.variant.isResponse = true ∧ decodeFrame p f.data.toList = .ok resp ∧
      ∀ k (_ : k < 64), 2 + resp.variant.payloadSize ≤ k → f.data[k] = 0

/-- The invariant of a safe run. -/
structure Inv (s : State) : Prop where
  /-- A serving machine has well-formed parameters (R4, R171). -/
  params : s.phase = .idle → s.params.wf = true
  /-- A serving machine's tables fit their counts: N_PAR, N_TEL ≤ 255 (R18, R19). -/
  tables : s.phase = .idle → s.regs.par.length ≤ 255 ∧ s.regs.tel.length ≤ 255
  /-- Every frame ever handed to TX is a legal response. -/
  tx : ∀ r ∈ s.tx, LegalResponse s.params r.frame
  /-- The two operator failures that cannot occur in a frame step have never been reported (R151). -/
  diag : ∀ e ∈ s.diag, e.code ≠ 6 ∧ e.code ≠ 7

end Sys2Proof.Machine
end

