-- ==== Sys2Proof/Certificates/Slice0/Obligations.lean ====
section
/-! DEFINITION. The statements for the provers. Each docstring names the rules of spec/ it formalises. -/

open Sys2Proof Sys2Proof.Machine

/-! ### The identifier codec -/

/-- R60, R61: where each field lies in the packed identifier, as numbers; the packed value never exceeds 0x7FF, and
unpacking does not see bits 15:11. -/
def Obligations.IdentifierFieldPlaces : Prop :=
  (∀ m : MessageIdentifier,
    (idPack m).toNat = m.direction.code.toNat + 2 * m.nodeId.toNat + 128 * m.specialCmd.code.toNat +
      512 * m.priority.code.toNat ∧ (idPack m).toNat ≤ 0x7FF) ∧
  (∀ v : BitVec 16,
    (idUnpack v).direction.code.toNat = v.toNat % 2 ∧ (idUnpack v).nodeId.toNat = v.toNat / 2 % 64 ∧
    (idUnpack v).specialCmd.code.toNat = v.toNat / 128 % 4 ∧ (idUnpack v).priority.code.toNat = v.toNat / 512 % 4 ∧
    idUnpack v = idUnpack (v &&& 0x7FF))

/-- R62: ID.TOARB fails exactly when one of bits 15:11 is set, and otherwise keeps the number. -/
def Obligations.ToArbFailsExactlyAboveElevenBits : Prop :=
  ∀ v : BitVec 16,
    (idToArb v = .error (.outOfRange v) ↔ ∃ k, 11 ≤ k ∧ v.getLsbD k = true) ∧
    ((∀ k, 11 ≤ k → v.getLsbD k = false) → ∃ a : BitVec 11, idToArb v = .ok a ∧ a.toNat = v.toNat)

/-- R63: the four laws of the identifier codec. The spec marks it as derived from R60 to R62. -/
def Obligations.IdentifierCodecLaws : Prop :=
  (∀ m, idUnpack (idPack m) = m) ∧
  (∀ v, idPack (idUnpack v) = v &&& 0x07FF) ∧
  ((∀ m m', idPack m = idPack m' → m = m') ∧ (∀ v : BitVec 16, v.toNat ≤ 0x07FF ↔ ∃ m, idPack m = v)) ∧
  (∀ m, ∃ a, idToArb (idPack m) = .ok a)

/-! ### The envelope codec -/

/-- R65: the 64 bytes ENV.PACK writes. -/
def Obligations.EnvPackBytes : Prop :=
  ∀ (c : BitVec 6) (b : BufferType) (t : Byte) (payload : List Byte), payload.length ≤ 62 →
    (envPack c b t payload).toList =
      BitVec.ofNat 8 (c.toNat + 64 * b.code.toNat) :: t :: (payload ++ List.replicate (62 - payload.length) 0)

/-- R66: ENV.UNPACK fails exactly on a length other than 64, and else splits the bytes. The filling of RXB, which R66
also says, is in `StepRunsDecodedInstruction`. -/
def Obligations.EnvUnpackFields : Prop :=
  ∀ bytes : List Byte,
    (bytes.length ≠ 64 → envUnpack bytes = .error (.length bytes.length)) ∧
    (bytes.length = 64 → ∃ e, envUnpack bytes = .ok e ∧ e.channelId.toNat = (bytes.getD 0 0).toNat % 64 ∧
      e.bufferType.code.toNat = (bytes.getD 0 0).toNat / 64 ∧ e.commandId = bytes.getD 1 0 ∧
      e.payload.toList = bytes.drop 2)

/-- R67: the three laws of the envelope codec; it loses no bit. The spec marks it as derived from R65 and R66. -/
def Obligations.EnvelopeCodecLaws : Prop :=
  (∀ (c : BitVec 6) (b : BufferType) (t : Byte) (payload : List Byte), payload.length ≤ 62 →
    ∃ e, envUnpack (envPack c b t payload).toList = .ok e ∧ e.channelId = c ∧ e.bufferType = b ∧ e.commandId = t ∧
      e.payload.toList = payload ++ List.replicate (62 - payload.length) 0) ∧
  (∀ bytes : List Byte, bytes.length = 64 → ∃ e, envUnpack bytes = .ok e ∧
    (envPack e.channelId e.bufferType e.commandId e.payload.toList).toList = bytes) ∧
  (∀ (c c' : BitVec 6) (b b' : BufferType) (t t' : Byte) (payload payload' : List Byte),
    payload.length = 62 → payload'.length = 62 → envPack c b t payload = envPack c' b' t' payload' →
    c = c' ∧ b = b' ∧ t = t' ∧ payload = payload')

/-! ### The tagged wire format -/

/-- R76: the four laws of the wire codec, in every well-formed configuration: the round trip, the canonical form of the
other direction, injectivity, the tag and the size. The spec marks it as derived from R73 and R74. -/
def Obligations.WireCodecLaws : Prop :=
  ∀ p : Params, p.wf = true →
    (∀ i, wireDec p (wireEnc p i) = .ok i) ∧
    (∀ (w : List Byte) (i : Instr), w.length = 63 → wireDec p w = .ok i →
      ∀ k, k < 63 → (wireEnc p i).getD k 0 = canonicalByte i.variant w k) ∧
    (∀ i j, wireEnc p i = wireEnc p j → i = j) ∧
    (∀ i, (wireEnc p i).getD 0 0 = p.tag i.variant ∧ (wireEnc p i).length = 63)

/-- R74: when WIRE.DEC fails, on a byte sequence of any length, and which failure it is. The length needed and the bool
rest on the spec's own decisions D25 and D12 (log 13). -/
def Obligations.WireDecodeFailures : Prop :=
  ∀ p : Params,
    wireDec p [] = .error (.shortPayload none 0 1) ∧
    (∀ t body, (∀ v, p.tag v ≠ t) → wireDec p (t :: body) = .error (.unknownTag t)) ∧
    (p.wf = true → ∀ (v : Variant) (body : List Byte),
      (body.length < v.payloadSize →
        wireDec p (p.tag v :: body) = .error (.shortPayload (some (p.tag v)) body.length v.payloadSize)) ∧
      (v.payloadSize ≤ body.length → ∃ i, wireDec p (p.tag v :: body) = .ok i ∧ i.variant = v))

/-- R71: WIRE.CHECK passes exactly when every row fills WIRE_SIZE and the tags are pairwise distinct; the default table
passes. Distinct tags are the spec's own decision D7 (log 13); the default table is the spec's placeholder (log 3). -/
def Obligations.SizeCheckExact : Prop :=
  (∀ p : Params, wireCheck p = none ↔
    (∀ v : Variant, 1 + v.payloadSize + p.pad v = p.wireSize) ∧ (∀ v v' : Variant, p.tag v = p.tag v' → v = v')) ∧
  wireCheck Params.default = none

/-- R67, R76: decode and encode agree on whole frames. In every well-formed configuration the 64 data bytes of every
command, under every buffer type, decode to that command. The spec marks both rules as derived; the place of the tag is
its decision D5 (log 13). -/
def Obligations.FrameDecodeOfEncode : Prop :=
  ∀ p : Params, p.wf = true → ∀ i : Instr,
    decodeFrame p (encode p i).toList = .ok i ∧
    ∀ bt, decodeFrame p (wrapWire p.genericChannelId bt (wireEnc p i)).toList = .ok i

/-- R52: words of the opcode table, at the default parameters, decode to their rows; a sanity check. The channel id and
the tags are the spec's placeholders D6 and D7 (log 3). -/
def Obligations.TableWordsDecode : Prop :=
  decodeTableWord 16 0x003F = some .resetAllSettingsReq ∧
  decodeTableWord 16 0x043F = some (.setVariableReq 0 0) ∧
  decodeTableWord 16 0xC63F = none ∧
  decodeTableWord 16 0x0EBF = some .flashClearReq ∧
  decodeTableWord 16 0x10FF = some (.heartbeatReq 0) ∧
  decodeTableWord 16 0x143F = some (.parameterSetLockReq 0 false) ∧
  decodeTableWord 16 0x163F = some .nodeInfoExtReq ∧
  decodeTableWord 16 0x103E = none

/-! ### The frame step -/

/-- R91: a step runs the decoded instruction. In the serving phase, when the next event is a CAN-FD, standard-addressed
frame whose data decode to `i`, the step is `exec i` in the state where the event is taken, RXB holds the frame's data
and the latches its identifier and the answer to come. The granularity is the spec's own decision D1 (log 13); that the
answer and the identifier are latched is the model's choice (logs 1, 17). -/
def Obligations.StepRunsDecodedInstruction : Prop :=
  ∀ (s : State) (f : RxFrame) (ans : TxAnswer) (rest : List Arrival) (i : Instr), s.phase = .idle →
    s.rx = { event := .rxFrame f, answer := ans } :: rest → f.fd = true → f.ext = false →
    decodeFrame s.params f.data = .ok i →
    ∃ b : Vector Byte 64, b.toList = f.data ∧ step s = exec i (served s f ans rest b)

/-- R92: a read error is skipped: no state changes, nothing is sent, E_TRANSPORT_READ is emitted. The spec's own
decision D26 (log 13). -/
def Obligations.ReadErrorIsSkipped : Prop :=
  ∀ (s : State) (ans : TxAnswer) (rest : List Arrival), s.phase = .idle →
    s.rx = { event := .rxError, answer := ans } :: rest →
    ∃ t, step s = .next t ∧ Dropped s t .transportRead ∧ t.regs = s.regs ∧ t.tx = s.tx

/-- R154: of several defects exactly the first in the order of the steps is reported, and the frame is dropped; a frame
with none carries a command; no step emits more than one DIAG event. The order and the info are the spec's own decisions
D20 and D21 (log 13). -/
def Obligations.FirstDefectIsReported : Prop :=
  (∀ (s : State) (f : RxFrame) (ans : TxAnswer) (rest : List Arrival), s.phase = .idle →
    s.rx = { event := .rxFrame f, answer := ans } :: rest →
    (∀ e, frameDefect s.params f = some e → ∃ t, step s = .next t ∧ Dropped s t (.decode e)) ∧
    (frameDefect s.params f = none → ∃ i, Receives s f i)) ∧
  (∀ s t : State, step s = .next t → t.diag = s.diag ∨ ∃ e, t.diag = s.diag ++ [e])

/-- R105: a frame step always terminates, whatever the event, and leaves the engine ready for the next: the step answers
a next state in the serving phase with that one event taken. Waiting changes nothing (R90, R166). The wait on an empty
RX and the count of events are the model's choices (logs 1, 12). -/
def Obligations.FrameStepCompletes : Prop :=
  ∀ s : State, s.phase = .idle → ∃ t, step s = .next t ∧ t.phase = .idle ∧ t.params = s.params ∧ t.rx = s.rx.tail ∧
    t.frameIndex = s.frameIndex + min 1 s.rx.length ∧ (s.rx = [] → t = s)

/-- R101: a step sends at most one frame, and only as the response to the request-direction command of the frame it has
just taken: the tag is that of the request's response, the identifier the request's with bit 0 set, the answer the one
the environment gave; what was sent before stays before it. The pairs and the identifier are the spec's own decisions D8
and D17 (log 13). -/
def Obligations.EveryFrameSentAnswersItsRequest : Prop :=
  ∀ s t : State, step s = .next t →
    t.tx = s.tx ∨
    ∃ (f : RxFrame) (ans : TxAnswer) (rest : List Arrival) (i : Instr) (out : TxFrame) (v : Variant), s.phase = .idle ∧
      s.rx = { event := .rxFrame f, answer := ans } :: rest ∧ t.rx = rest ∧ f.fd = true ∧ f.ext = false ∧
      decodeFrame s.params f.data = .ok i ∧ replyOf i.variant = some v ∧
      t.tx = s.tx ++ [{ frame := out, answer := ans }] ∧ out.arbId = f.id.extractLsb' 0 11 ||| 1 ∧
      out.data[1] = s.params.tag v

/-- R26, R186: no step of the serving phase changes a register other than the one its command names: VAR[id] by
SET_VARIABLE_REQ, the value of an unlocked PAR[id] by PARAMETER_SET_REQ, the lock of PAR[id] by PARAMETER_SET_LOCK_REQ.
The spec marks both rules as derived. -/
def Obligations.OnlyTheNamedRegisterIsWritten : Prop :=
  ∀ s t : State, s.phase = .idle → step s = .next t →
    t.regs = s.regs ∨
    (∃ f id value, Receives s f (.setVariableReq id value) ∧
      t.regs = { s.regs with var := s.regs.var.set id.toNat (some value) id.isLt }) ∨
    (∃ f id value e, Receives s f (.parameterSetReq id value) ∧ s.regs.par[id.toNat]? = some e ∧ e.locked = false ∧
      t.regs = { s.regs with par := s.regs.par.set id.toNat { e with value := value } }) ∨
    (∃ f id lock e, Receives s f (.parameterSetLockReq id lock) ∧ s.regs.par[id.toNat]? = some e ∧
      t.regs = { s.regs with par := s.regs.par.set id.toNat { e with locked := lock } })

/-- R14 to R19, R145, R146(5): what the reset loader alone writes stays as it is in every serving step: the node record,
the slot registers, the telemetry table, N_PAR and every parameter's datatype. It rests on the spec's own decisions D16
and D24 (log 13). -/
def Obligations.LoadedOnceStaysFixed : Prop :=
  ∀ s t : State, s.phase = .idle → step s = .next t →
    t.regs.nodeId = s.regs.nodeId ∧ t.regs.frequency = s.regs.frequency ∧
    t.regs.firmwareHash = s.regs.firmwareHash ∧ t.regs.liquidHash = s.regs.liquidHash ∧
    t.regs.deviceName = s.regs.deviceName ∧ t.regs.reqdata = s.regs.reqdata ∧ t.regs.nodeinfo = s.regs.nodeinfo ∧
    t.regs.flashstatus = s.regs.flashstatus ∧ t.regs.tel = s.regs.tel ∧
    t.regs.par.map (fun e => e.dtype) = s.regs.par.map (fun e => e.dtype)

/-- R38: while a parameter is locked no frame changes its value. Clause of R38 on the lock flag alone. -/
def Obligations.LockedParameterKeepsItsValue : Prop :=
  ∀ (s t : State) (k : Nat) (e : ParEntry), s.phase = .idle → step s = .next t → s.regs.par[k]? = some e →
    e.locked = true → ∃ e', t.regs.par[k]? = some e' ∧ e'.value = e.value ∧ e'.dtype = e.dtype

/-- R100: what the engine does not look at. Two frames that carry the same command (same channel, same tag, same field
bytes) but differ in the identifier (direction, node_id, special_cmd, priority), in buffer_type and in the pad bytes
lead to the same registers, the same log and the same response data; the response's identifier alone follows the
request's (R99) and is not compared. The spec's own decision D19 (log 13). -/
def Obligations.IdentifierBufferTypeAndPadAreNotExamined : Prop :=
  ∀ (s : State) (f g : RxFrame) (ans : TxAnswer) (rest : List Arrival), s.phase = .idle →
    f.fd = true → f.ext = false → g.fd = true → g.ext = false → f.data.length = 64 → g.data.length = 64 →
    (f.data.getD 0 0).toNat % 64 = (g.data.getD 0 0).toNat % 64 → f.data.getD 1 0 = g.data.getD 1 0 →
    (∀ v : Variant, s.params.tag v = f.data.getD 1 0 → ∀ k, k < v.payloadSize →
      f.data.getD (2 + k) 0 = g.data.getD (2 + k) 0) →
    ∃ t u, step { s with rx := { event := .rxFrame f, answer := ans } :: rest } = .next t ∧
      step { s with rx := { event := .rxFrame g, answer := ans } :: rest } = .next u ∧
      t.regs = u.regs ∧ t.diag = u.diag ∧ t.phase = u.phase ∧ t.txb = u.txb ∧
      t.tx.map (fun r => (r.frame.data, r.answer)) = u.tx.map (fun r => (r.frame.data, r.answer))

/-- R102: a refused send drops that response and nothing else: with the other answer the same step leaves the same
registers and hands over the same frame; only a step that sends logs E_TRANSPORT_WRITE. The spec's own decision D27 (log
13). -/
def Obligations.FailedSendKeepsTheWrite : Prop :=
  ∀ (s : State) (ev : RxEvent) (rest : List Arrival), s.phase = .idle →
    ∃ t u, step { s with rx := { event := ev, answer := .ok } :: rest } = .next t ∧
      step { s with rx := { event := ev, answer := .transportError } :: rest } = .next u ∧
      u.regs = t.regs ∧ u.phase = t.phase ∧ u.rx = t.rx ∧
      u.tx.map (fun r => r.frame) = t.tx.map (fun r => r.frame) ∧
      u.diag = t.diag ++ (if t.tx = s.tx then [] else [.transportWrite])

/-- R151: which codes a step can report. From every state a serving step logs at most one event, of codes 1 to 5, 8 or
9: the operator failures 6 and 7 are unreachable; the reset sequence logs at most one event, of codes 10 to 12. The
codes are the spec's own decision D21 (log 13). -/
def Obligations.ReportedCodes : Prop :=
  ∀ s t : State, step s = .next t → ∃ new : List DiagEvent, t.diag = s.diag ++ new ∧ new.length ≤ 1 ∧
    ∀ e ∈ new, (s.phase = .idle → e.code ∈ [1, 2, 3, 4, 5, 8, 9]) ∧ (s.phase = .reset → e.code ∈ [10, 11, 12])

/-- R42: a write is seen by the next frame. A SET_VARIABLE_REQ followed by a GET_VARIABLE_REQ of the same id is answered
with the value written; a lock or unlock followed by a PARAMETER_SET_REQ of the same id meets the lock. The spec marks
it as derived from R39. The response bytes (place of the tag, little-endian value, status 2 or 0, zero value when
locked, the paired response) rest on the spec's own decisions D3, D5, D8, D10, D11 (log 13). -/
def Obligations.WriteIsSeenByTheNextFrame : Prop :=
  (∀ (s : State) (f g : RxFrame) (a b : TxAnswer) (rest : List Arrival) (id : Byte) (value : Word), s.phase = .idle →
    s.rx = { event := .rxFrame f, answer := a } :: { event := .rxFrame g, answer := b } :: rest →
    f.fd = true → f.ext = false → g.fd = true → g.ext = false →
    decodeFrame s.params f.data = .ok (.setVariableReq id value) →
    decodeFrame s.params g.data = .ok (.getVariableReq id) →
    ∃ t u out, step s = .next t ∧ step t = .next u ∧ u.tx = t.tx ++ [{ frame := out, answer := b }] ∧
      out.data.toList.drop 1 =
        s.params.tag .getVariableRes :: id :: (wordBytes value ++ List.replicate 57 0)) ∧
  (∀ (s : State) (f g : RxFrame) (a b : TxAnswer) (rest : List Arrival) (id : Byte) (lock : Bool) (value : Word)
      (e : ParEntry), s.phase = .idle →
    s.rx = { event := .rxFrame f, answer := a } :: { event := .rxFrame g, answer := b } :: rest →
    f.fd = true → f.ext = false → g.fd = true → g.ext = false →
    decodeFrame s.params f.data = .ok (.parameterSetLockReq id lock) →
    decodeFrame s.params g.data = .ok (.parameterSetReq id value) →
    s.regs.par[id.toNat]? = some e →
    ∃ t u out, step s = .next t ∧ step t = .next u ∧ u.tx = t.tx ++ [{ frame := out, answer := b }] ∧
      u.regs.par[id.toNat]? =
        some { e with value := if lock = true then e.value else value, locked := lock } ∧
      out.data.toList.drop 1 =
        s.params.tag .parameterSetConf :: id :: (if lock = true then 2 else 0) ::
          (wordBytes (if lock = true then 0 else value) ++ List.replicate 56 0))

/-- R37: no read has a side effect, and every command is idempotent: repeated at once it leaves the same registers and
sends the same frame again. Of R37 only this: what each read answers, and that HEARTBEAT_REQ answers from its operand
only, is in their own statements. -/
def Obligations.CommandsAreIdempotent : Prop :=
  ∀ (i : Instr) (s t : State), exec i s = .next t →
    (i.variant ∈ [.getVariableReq, .dataReq, .nodeInfoReq, .flashClearReq, .nodeInfoExtReq, .heartbeatReq] →
      t.regs = s.regs) ∧
    ∃ u, exec i t = .next u ∧ u.regs = t.regs ∧ ∀ r, t.tx = s.tx ++ [r] → u.tx = t.tx ++ [r]

/-- R185, R11, R20: values a master cannot distinguish. A step keeps two alike states alike: the same frames go out, the
same events are logged, whatever is only absent rather than zero, is beyond byte 51 of the name, or is read by no
command. The spec marks R185 as derived. -/
def Obligations.AlikeStatesStayAlike : Prop :=
  ∀ s t s' : State, Alike s t → step s = .next s' → ∃ t', step t = .next t' ∧ Alike s' t'

/-! ### The invariant -/

/-- R4, R97 to R99, R151: every step keeps the invariant of a safe run, from every state that has it. The invariant is
the model's own, made of those rules (logs 10, 15). -/
def Obligations.StepKeepsInv : Prop :=
  ∀ s t : State, Inv s → step s = .next t → Inv t

/-- The state after reset has the invariant, and is what the reset sequence makes of the empty configuration. The values
of State.reset are the model's choice where the configuration decides them (logs 3, 4, 5, 12). -/
def Obligations.ResetStateHasInv : Prop :=
  Inv State.reset ∧ step (State.reset.assertReset (.record .empty) true) = .next State.reset

/-! ### Reset -/

/-- R27: what a successful reset leaves in every register. The spec's own decision D24 (log 13). -/
def Obligations.SuccessfulResetLoadsEveryRegister : Prop :=
  ∀ (s : State) (c : CfgRecord), s.phase = .reset → s.params.wf = true → s.cfg = .record c → c.wf = true →
    s.transportOpens = true →
    ∃ t, step s = .next t ∧ t.phase = .idle ∧ t.regs.var = c.var ∧ t.regs.reqdata = c.reqdata ∧
      t.regs.nodeinfo = c.nodeinfo ∧ t.regs.flashstatus = c.flashstatus ∧ t.regs.nodeId = c.nodeId ∧
      t.regs.frequency = c.frequency ∧ t.regs.firmwareHash = c.firmwareHash ∧ t.regs.liquidHash = c.liquidHash ∧
      t.regs.deviceName.toList = c.deviceName ++ List.replicate (53 - c.deviceName.length) 0 ∧ t.regs.par = c.par ∧
      t.regs.tel = c.tel ∧ t.params = s.params ∧ t.rx = s.rx ∧ t.tx = s.tx ∧ t.diag = s.diag

/-- R170, R171: the three fatal start-up failures in the order of the reset sequence; a failed machine has no step. The
order is the spec's own decision D34 (log 13); the fault of a failed machine and the place of the record's bounds are
the model's (logs 7, 15). -/
def Obligations.StartupFailuresInOrder : Prop :=
  ∀ s : State, s.phase = .reset →
    (∀ row, wireCheck s.params = some row → FailsStartup s (.sizeCheck row)) ∧
    (wireCheck s.params = none →
      ((s.cfg = .configError ∨ s.params.wf = false ∨ ∃ c, s.cfg = .record c ∧ c.wf = false) → FailsStartup s .config) ∧
      (∀ c, s.params.wf = true → s.cfg = .record c → c.wf = true → s.transportOpens = false →
        FailsStartup s .transportOpen))

/-- R172: nothing survives a reset. Whatever two machines held before, the same configuration leaves them the same
registers; every variable, parameter value and lock is the configuration's. -/
def Obligations.NothingSurvivesReset : Prop :=
  ∀ (s s' : State) (c : CfgRecord), s.params = s'.params → s.params.wf = true → c.wf = true →
    ∃ t t', step (s.assertReset (.record c) true) = .next t ∧ step (s'.assertReset (.record c) true) = .next t' ∧
      t.phase = .idle ∧ t'.phase = .idle ∧ t.regs = t'.regs ∧ t.regs.var = c.var ∧ t.regs.par = c.par

/-! ### The commands. Each says which frames carry it, its result, that it completes from every state, and its frame
(what it leaves alone): every register through `t.regs`, everything else through `Answers`. -/

/-- R110, R112, R118: RESET_ALL_SETTINGS_REQ, STATUS_REQ and SYNC_CLOCK_REQ change no register and are answered by their
own empty acknowledgement. The form of the response (`Answers`) rests on the spec's own decisions D3, D5, D17, D18 (log
13); that the acknowledgement is the empty response is D8. -/
def Obligations.EmptyRequestsAreAcknowledged : Prop :=
  (∀ (p : Params) (b : List Byte), p.wf = true →
    (FrameCarries p .resetAllSettingsReq b → decodeFrame p b = .ok .resetAllSettingsReq) ∧
    (FrameCarries p .statusReq b → decodeFrame p b = .ok .statusReq) ∧
    (FrameCarries p .syncClockReq b → decodeFrame p b = .ok .syncClockReq)) ∧
  (∀ s : State,
    (∃ t, exec .resetAllSettingsReq s = .next t ∧ t.regs = s.regs ∧
      Answers s t (s.params.tag .resetAllSettingsRes) []) ∧
    (∃ t, exec .statusReq s = .next t ∧ t.regs = s.regs ∧ Answers s t (s.params.tag .statusRes) []) ∧
    (∃ t, exec .syncClockReq s = .next t ∧ t.regs = s.regs ∧ Answers s t (s.params.tag .syncClockRes) []))

/-- R114: SET_VARIABLE_REQ. The form of the response (`Answers`) rests on the spec's own decisions D3, D5, D17, D18 (log
13). -/
def Obligations.SetVariableWritesAndEchoes : Prop :=
  (∀ (p : Params) (b : List Byte), p.wf = true → FrameCarries p .setVariableReq b →
    decodeFrame p b = .ok (.setVariableReq (b.getD 2 0) (leWordAt b 3))) ∧
  (∀ (s : State) (id : Byte) (value : Word), ∃ t, exec (.setVariableReq id value) s = .next t ∧
    t.regs = { s.regs with var := s.regs.var.set id.toNat (some value) id.isLt } ∧
    Answers s t (s.params.tag .setVariableRes) (id :: wordBytes value))

/-- R116: GET_VARIABLE_REQ; an absent variable reads as 0 and stays absent. The form of the response (`Answers`) rests
on the spec's own decisions D3, D5, D17, D18 (log 13). -/
def Obligations.GetVariableReadsOrZero : Prop :=
  (∀ (p : Params) (b : List Byte), p.wf = true → FrameCarries p .getVariableReq b →
    decodeFrame p b = .ok (.getVariableReq (b.getD 2 0))) ∧
  (∀ (s : State) (id : Byte), ∃ t, exec (.getVariableReq id) s = .next t ∧ t.regs = s.regs ∧
    (∀ v, s.regs.var[id.toNat]'(id.isLt) = some v →
      Answers s t (s.params.tag .getVariableRes) (id :: wordBytes v)) ∧
    (s.regs.var[id.toNat]'(id.isLt) = none → Answers s t (s.params.tag .getVariableRes) [id, 0, 0, 0, 0]))

/-- R120: DATA_REQ is answered with the 60 bytes of REQDATA, unchanged, or 60 zero bytes. The form of the response
(`Answers`) rests on the spec's own decisions D3, D5, D17, D18 (log 13); the empty request and the 60-byte register are
D8 and D16. -/
def Obligations.DataRequestSendsReqdata : Prop :=
  (∀ (p : Params) (b : List Byte), p.wf = true → FrameCarries p .dataReq b → decodeFrame p b = .ok .dataReq) ∧
  (∀ s : State, ∃ t, exec .dataReq s = .next t ∧ t.regs = s.regs ∧
    (∀ d, s.regs.reqdata = some d → Answers s t (s.params.tag .dataRes) d.toList) ∧
    (s.regs.reqdata = none → Answers s t (s.params.tag .dataRes) (List.replicate 60 0)))

/-- R122: NODE_INFO_REQ is answered with the 40 bytes of NODEINFO, unchanged, or 40 zero bytes. The form of the response
(`Answers`) rests on the spec's own decisions D3, D5, D17, D18 (log 13). -/
def Obligations.NodeInfoRequestSendsNodeinfo : Prop :=
  (∀ (p : Params) (b : List Byte), p.wf = true → FrameCarries p .nodeInfoReq b →
    decodeFrame p b = .ok .nodeInfoReq) ∧
  (∀ s : State, ∃ t, exec .nodeInfoReq s = .next t ∧ t.regs = s.regs ∧
    (∀ d, s.regs.nodeinfo = some d → Answers s t (s.params.tag .nodeInfoRes) d.toList) ∧
    (s.regs.nodeinfo = none → Answers s t (s.params.tag .nodeInfoRes) (List.replicate 40 0)))

/-- R124: FLASH_CLEAR_REQ clears nothing and is answered with FLASHSTATUS or 0. The form of the response (`Answers`)
rests on the spec's own decisions D3, D5, D17, D18 (log 13). -/
def Obligations.FlashClearReportsStatus : Prop :=
  (∀ (p : Params) (b : List Byte), p.wf = true → FrameCarries p .flashClearReq b →
    decodeFrame p b = .ok .flashClearReq) ∧
  (∀ s : State, ∃ t, exec .flashClearReq s = .next t ∧ t.regs = s.regs ∧
    (∀ st, s.regs.flashstatus = some st → Answers s t (s.params.tag .flashStatusRes) [st]) ∧
    (s.regs.flashstatus = none → Answers s t (s.params.tag .flashStatusRes) [0]))

/-- R126: HEARTBEAT_REQ is answered with its counter plus one modulo 2^32. The form of the response (`Answers`) rests on
the spec's own decisions D3, D5, D17, D18 (log 13); the width of the counter is D9. -/
def Obligations.HeartbeatAddsOneAndWraps : Prop :=
  (∀ (p : Params) (b : List Byte), p.wf = true → FrameCarries p .heartbeatReq b →
    decodeFrame p b = .ok (.heartbeatReq (leWordAt b 2))) ∧
  (∀ (s : State) (counter : Word), ∃ t, exec (.heartbeatReq counter) s = .next t ∧ t.regs = s.regs ∧
    Answers s t (s.params.tag .heartbeatRes) (wordBytes (BitVec.ofNat 32 ((counter.toNat + 1) % 2 ^ 32))))

/-- R128: PARAMETER_SET_REQ: an unknown id, a locked parameter, the write; in that order. The form of the response
(`Answers`) rests on the spec's own decisions D3, D5, D17, D18 (log 13); the layout, the status codes and the zero value
are D10, D11, D14. -/
def Obligations.ParameterSetInOrder : Prop :=
  (∀ (p : Params) (b : List Byte), p.wf = true → FrameCarries p .parameterSetReq b →
    decodeFrame p b = .ok (.parameterSetReq (b.getD 2 0) (leWordAt b 3))) ∧
  (∀ (s : State) (id : Byte) (value : Word), ∃ t, exec (.parameterSetReq id value) s = .next t ∧
    (s.regs.par.length ≤ id.toNat →
      t.regs = s.regs ∧ Answers s t (s.params.tag .parameterSetConf) [id, 1, 0, 0, 0, 0]) ∧
    (∀ e, s.regs.par[id.toNat]? = some e → e.locked = true →
      t.regs = s.regs ∧ Answers s t (s.params.tag .parameterSetConf) [id, 2, 0, 0, 0, 0]) ∧
    (∀ e, s.regs.par[id.toNat]? = some e → e.locked = false →
      t.regs = { s.regs with par := s.regs.par.set id.toNat { e with value := value } } ∧
        Answers s t (s.params.tag .parameterSetConf) (id :: 0 :: wordBytes value)))

/-- R130: PARAMETER_SET_LOCK_REQ: an unknown id, or the lock is written whoever asks; the echo is 0x00 or 0x01. The form
of the response (`Answers`) rests on the spec's own decisions D3, D5, D17, D18 (log 13); the layout and the zero lock
are D11, D12, D14. -/
def Obligations.ParameterLockIsUnconditional : Prop :=
  (∀ (p : Params) (b : List Byte), p.wf = true → FrameCarries p .parameterSetLockReq b →
    decodeFrame p b = .ok (.parameterSetLockReq (b.getD 2 0) (decide (b.getD 3 0 ≠ 0)))) ∧
  (∀ (s : State) (id : Byte) (lock : Bool), ∃ t, exec (.parameterSetLockReq id lock) s = .next t ∧
    (s.regs.par.length ≤ id.toNat →
      t.regs = s.regs ∧ Answers s t (s.params.tag .parameterSetLockConf) [id, 1, 0]) ∧
    (∀ e, s.regs.par[id.toNat]? = some e →
      t.regs = { s.regs with par := s.regs.par.set id.toNat { e with locked := lock } } ∧
        Answers s t (s.params.tag .parameterSetLockConf) [id, 0, if lock = true then 1 else 0]))

/-- R132: NODE_INFO_EXT_REQ is answered with the two counts, the two hashes and the first 52 bytes of the name; with
tables that fit their counts nothing is lost by the truncation. The form of the response (`Answers`) rests on the spec's
own decisions D3, D5, D17, D18 (log 13); the layout and the widths are D13 and D23. -/
def Obligations.NodeInfoExtReportsCountsAndIdentity : Prop :=
  (∀ (p : Params) (b : List Byte), p.wf = true → FrameCarries p .nodeInfoExtReq b →
    decodeFrame p b = .ok .nodeInfoExtReq) ∧
  (∀ s : State, ∃ (t : State) (tc pc : Byte), exec .nodeInfoExtReq s = .next t ∧ t.regs = s.regs ∧
    tc.toNat = s.regs.tel.length % 256 ∧ pc.toNat = s.regs.par.length % 256 ∧
    (s.regs.tel.length ≤ 255 → tc.toNat = s.regs.tel.length) ∧
    (s.regs.par.length ≤ 255 → pc.toNat = s.regs.par.length) ∧
    Answers s t (s.params.tag .nodeInfoExtRes)
      (tc :: pc :: (wordBytes s.regs.firmwareHash ++ wordBytes s.regs.liquidHash ++
        s.regs.deviceName.toList.take 52)))

/-- R111, R113, R115, R117, R119, R121, R123, R125, R127, R129, R131, R133: which frames carry the twelve
response-direction commands, with every field at its bytes. The layouts rest on the spec's own decisions D3, D8 to D13,
D33 (log 13). -/
def Obligations.ResponseCommandsDecode : Prop :=
  ∀ (p : Params) (b : List Byte), p.wf = true →
    (FrameCarries p .resetAllSettingsRes b → decodeFrame p b = .ok .resetAllSettingsRes) ∧
    (FrameCarries p .statusRes b → decodeFrame p b = .ok .statusRes) ∧
    (FrameCarries p .setVariableRes b → decodeFrame p b = .ok (.setVariableRes (b.getD 2 0) (leWordAt b 3))) ∧
    (FrameCarries p .getVariableRes b → decodeFrame p b = .ok (.getVariableRes (b.getD 2 0) (leWordAt b 3))) ∧
    (FrameCarries p .syncClockRes b → decodeFrame p b = .ok .syncClockRes) ∧
    (FrameCarries p .dataRes b → ∃ d : Vector Byte 56, d.toList = (b.drop 6).take 56 ∧
      decodeFrame p b = .ok (.dataRes (leWordAt b 2) d)) ∧
    (FrameCarries p .nodeInfoRes b → ∃ ct : Vector Byte 32, ct.toList = (b.drop 10).take 32 ∧
      decodeFrame p b = .ok (.nodeInfoRes (leWordAt b 2) (leWordAt b 6) ct)) ∧
    (FrameCarries p .flashStatusRes b → decodeFrame p b = .ok (.flashStatusRes (b.getD 2 0))) ∧
    (FrameCarries p .heartbeatRes b → decodeFrame p b = .ok (.heartbeatRes (leWordAt b 2))) ∧
    (FrameCarries p .parameterSetConf b →
      decodeFrame p b = .ok (.parameterSetConf (b.getD 2 0) (b.getD 3 0) (leWordAt b 4))) ∧
    (FrameCarries p .parameterSetLockConf b →
      decodeFrame p b = .ok (.parameterSetLockConf (b.getD 2 0) (b.getD 3 0) (decide (b.getD 4 0 ≠ 0)))) ∧
    (FrameCarries p .nodeInfoExtRes b → ∃ name : Vector Byte 52, name.toList = b.drop 12 ∧
      decodeFrame p b = .ok (.nodeInfoExtRes (b.getD 2 0) (b.getD 3 0) (leWordAt b 4) (leWordAt b 8) name))

/-- R97, R103: each of the twelve response-direction commands completes with no state change and no frame, and logs its
tag: RESET_ALL_SETTINGS_RES, STATUS_RES, SET_VARIABLE_RES, GET_VARIABLE_RES, SYNC_CLOCK_RES, DATA_RES, NODE_INFO_RES,
FLASH_STATUS_RES, HEARTBEAT_RES, PARAMETER_SET_CONF, PARAMETER_SET_LOCK_CONF, NODE_INFO_EXT_RES. In a step the tag
logged is byte 1 of the frame. The set of response-direction variants is the spec's own decision D8 (log 13). -/
def Obligations.ResponseCommandsAreIgnored : Prop :=
  (∀ (i : Instr) (s : State), i.variant.isResponse = true →
    exec i s = .next { s with diag := s.diag ++ [.unexpectedResponse (s.params.tag i.variant)] }) ∧
  (∀ (s : State) (f : RxFrame) (i : Instr), s.phase = .idle → Receives s f i → i.variant.isResponse = true →
    ∃ t, step s = .next t ∧ Dropped s t (.unexpectedResponse (f.data.getD 1 0)))

/-! ### The state operators -/

/-- R146: the laws of the state operators: read after write; every other register kept; the `_OR_ZERO` forms; a
parameter write changes one field of one entry; the counts are constant in a run; a read after a write, and of what was
never set. The spec marks it as derived from R136 to R144. The form of the response in the last two clauses, and the
widths 60 and 40 of the zero forms, rest on the spec's own decisions D3, D5, D16, D17, D18 (log 13). -/
def Obligations.StateOperatorLaws : Prop :=
  (∀ (r : FlatReg) (v : r.Value) (s : State), rfGet r (rfSet r v s) = some v) ∧
  (∀ (r r' : FlatReg) (v : r.Value) (s : State), r' ≠ r → rfGet r' (rfSet r v s) = rfGet r' s) ∧
  (∀ (r : FlatReg) (v : r.Value) (s : State),
    rfSet r v s = { s with regs := { s.regs with
      var := (rfSet r v s).regs.var, reqdata := (rfSet r v s).regs.reqdata,
      nodeinfo := (rfSet r v s).regs.nodeinfo, flashstatus := (rfSet r v s).regs.flashstatus } }) ∧
  (∀ (s : State) (id : Byte),
    (rfGet (.var id) s = none → rfGetU32OrZero id s = 0) ∧
    (∀ v, rfGet (.var id) s = some v → rfGetU32OrZero id s = v) ∧
    (rfGet .flashstatus s = none → rfGetU8OrZero s = 0) ∧
    (∀ v, rfGet .flashstatus s = some v → rfGetU8OrZero s = v) ∧
    (rfGet .reqdata s = none → (rfGetReqdataOrZeros s).toList = List.replicate 60 0) ∧
    (∀ v, rfGet .reqdata s = some v → rfGetReqdataOrZeros s = v) ∧
    (rfGet .nodeinfo s = none → (rfGetNodeinfoOrZeros s).toList = List.replicate 40 0) ∧
    (∀ v, rfGet .nodeinfo s = some v → rfGetNodeinfoOrZeros s = v)) ∧
  (∀ (s : State) (id : Byte) (e : ParEntry) (value : Word) (lock : Bool), parLookup id s = some e →
    parSetValue id value s =
      { s with regs := { s.regs with par := s.regs.par.set id.toNat { e with value := value } } } ∧
    parSetLock id lock s =
      { s with regs := { s.regs with par := s.regs.par.set id.toNat { e with locked := lock } } }) ∧
  (∀ s t : State, s.phase = .idle → step s = .next t →
    t.regs.par.length = s.regs.par.length ∧ t.regs.tel.length = s.regs.tel.length) ∧
  (∀ (s : State) (id : Byte) (value : Word), ∃ t,
    exec (.getVariableReq id) (rfSet (.var id) value s) = .next t ∧
    Answers (rfSet (.var id) value s) t (s.params.tag .getVariableRes) (id :: wordBytes value)) ∧
  (∀ (s : State) (id : Byte), rfGet (.var id) s = none →
    ∃ t, exec (.getVariableReq id) s = .next t ∧ Answers s t (s.params.tag .getVariableRes) [id, 0, 0, 0, 0])
end

