-- ==== Sys2Proof/Laws/Codec.lean ====
section
/-! SUPPORT. The small lemmas of the codecs: byte order, field extraction, sizes, the variant table. -/

namespace Sys2Proof

@[simp] theorem leBytes_length (n v : Nat) : (leBytes n v).length = n := by
  induction n generalizing v with
  | zero => rfl
  | succ n ih => simp [leBytes, ih]

/-- Reading back what `leBytes` wrote gives the value, less what does not fit in `n` bytes. -/
theorem fromLe_leBytes (n v : Nat) : fromLe (leBytes n v) = v % 256 ^ n := by
  induction n generalizing v with
  | zero => simp [leBytes, fromLe, Nat.mod_one]
  | succ n ih =>
    rw [leBytes, fromLe, ih, BitVec.toNat_ofNat, show 256 ^ (n + 1) = 256 * 256 ^ n from Nat.pow_succ']
    exact (Nat.mod_mul (x := v) (a := 256) (b := 256 ^ n)).symm

@[simp] theorem le32_length (v : Word) : (le32 v).length = 4 := leBytes_length ..

/-- A u32 field is read back from where it was written, whatever stands around it (R32). -/
theorem u32At_append (a c : List Byte) (v : Word) (p : Nat) (h : a.length = p) :
    u32At (a ++ (le32 v ++ c)) p = v := by
  subst h
  have : ((a ++ (le32 v ++ c)).drop a.length).take 4 = le32 v := by
    rw [List.drop_left, List.take_append_of_le_length (by simp), List.take_of_length_le (by simp)]
  rw [u32At, this, le32, fromLe_leBytes]
  apply BitVec.eq_of_toNat_eq
  have := v.isLt
  simp only [BitVec.toNat_ofNat]
  omega

/-- A byte-array field is read back from where it was written (R33). -/
theorem bytesAt_append {n : Nat} (a c : List Byte) (v : Vector Byte n) (p : Nat) (h : a.length = p) :
    bytesAt n (a ++ (v.toList ++ c)) p = v := by
  subst h
  ext i hi
  simp [bytesAt, List.getElem?_append_right, List.getElem?_append]

@[simp] theorem encEmpty_eq : encEmpty = [] := rfl
@[simp] theorem decEmpty_eq (b : List Byte) : decEmpty b = () := rfl

@[simp] theorem boolByte_ne_zero (f : Bool) : (boolByte f != 0#8) = f := by cases f <;> decide

/-- The fields of a command take exactly the payload_size of its row (R53, R71). -/
@[simp] theorem encodeFields_length (i : Instr) : (encodeFields i).length = i.variant.payloadSize := by
  cases i <;>
    simp [encodeFields, encSetVar, encGetVar, encData, encNodeInfo, encFlashStatus, encHeartbeat, encParSet, encParConf,
      encParLock, encParLockConf, encNodeInfoExt, Instr.variant, Variant.payloadSize, Variant.layout,
      Layout.payloadSize]

/-- Every variant fits the 62-byte payload region (R71). -/
theorem payloadSize_le (v : Variant) : v.payloadSize ≤ 62 := by cases v <;> decide

theorem mem_variant_all (v : Variant) : v ∈ Variant.all := by cases v <;> decide

theorem variantOfTag_eq_some_tag {p : Params} {t : Byte} {v : Variant} (h : variantOfTag p t = some v) :
    p.tag v = t := by
  have := List.find?_some h
  simpa using this

theorem variantOfTag_eq_none {p : Params} {t : Byte} : variantOfTag p t = none ↔ ∀ v, p.tag v ≠ t := by
  simp only [variantOfTag, List.find?_eq_none, beq_iff_eq]
  exact ⟨fun h v => h v (mem_variant_all v), fun h v _ => h v⟩

/-- Decoding the fields reads what encoding wrote, whatever pad follows. -/
theorem decodeFields_encodeFields (i : Instr) (pad : List Byte) :
    decodeFields i.variant (encodeFields i ++ pad) = i := by
  have w (a c : List Byte) (v : Word) := u32At_append a c v a.length rfl
  cases i with
  | setVariableReq id v =>
    have := w [id] pad v
    simp_all [Instr.variant, decodeFields, encodeFields, decSetVar, encSetVar, u8At]
  | setVariableRes id v =>
    have := w [id] pad v
    simp_all [Instr.variant, decodeFields, encodeFields, decSetVar, encSetVar, u8At]
  | getVariableRes id v =>
    have := w [id] pad v
    simp_all [Instr.variant, decodeFields, encodeFields, decSetVar, encSetVar, u8At]
  | parameterSetReq id v =>
    have := w [id] pad v
    simp_all [Instr.variant, decodeFields, encodeFields, decParSet, encParSet, u8At]
  | parameterSetConf id st v =>
    have := w [id, st] pad v
    simp_all [Instr.variant, decodeFields, encodeFields, decParConf, encParConf, u8At]
  | heartbeatReq v =>
    have := w [] pad v
    simp_all [Instr.variant, decodeFields, encodeFields, decHeartbeat, encHeartbeat]
  | heartbeatRes v =>
    have := w [] pad v
    simp_all [Instr.variant, decodeFields, encodeFields, decHeartbeat, encHeartbeat]
  | dataRes m d =>
    have h1 := w [] (d.toList ++ pad) m
    have h2 := bytesAt_append (le32 m) pad d 4 (by simp)
    simp_all [Instr.variant, decodeFields, encodeFields, decData, encData]
  | nodeInfoRes fw m ct =>
    have h1 := w [] (le32 m ++ (ct.toList ++ pad)) fw
    have h2 := w (le32 fw) (ct.toList ++ pad) m
    have h3 := bytesAt_append (le32 fw ++ le32 m) pad ct 8 (by simp)
    simp_all [Instr.variant, decodeFields, encodeFields, decNodeInfo, encNodeInfo]
  | nodeInfoExtRes tc pc fh lh name =>
    have h1 := w [tc, pc] (le32 lh ++ (name.toList ++ pad)) fh
    have h2 := u32At_append (tc :: pc :: le32 fh) (name.toList ++ pad) lh 6 (by simp)
    have h3 := bytesAt_append (tc :: pc :: (le32 fh ++ le32 lh)) pad name 10 (by simp)
    simp_all [Instr.variant, decodeFields, encodeFields, decNodeInfoExt, encNodeInfoExt, u8At]
  | _ =>
    simp [Instr.variant, decodeFields, encodeFields, decGetVar, encGetVar, decFlashStatus, encFlashStatus, decParLock,
      encParLock, decParLockConf, encParLockConf, u8At, boolAt]

end Sys2Proof
end

