-- ==== Sys2Proof/Laws/State.lean ====
section
/-! SUPPORT. One lemma per field per update of State: what each shared operation leaves in each field. All true by rfl,
so that no later proof unfolds a record update. -/

namespace Sys2Proof.Machine

@[simp] theorem emitDiag_params (e : DiagEvent) (s : State) : (emitDiag e s).params = s.params := rfl
@[simp] theorem emitDiag_phase (e : DiagEvent) (s : State) : (emitDiag e s).phase = s.phase := rfl
@[simp] theorem emitDiag_frameIndex (e : DiagEvent) (s : State) : (emitDiag e s).frameIndex = s.frameIndex := rfl
@[simp] theorem emitDiag_regs (e : DiagEvent) (s : State) : (emitDiag e s).regs = s.regs := rfl
@[simp] theorem emitDiag_rxb (e : DiagEvent) (s : State) : (emitDiag e s).rxb = s.rxb := rfl
@[simp] theorem emitDiag_txb (e : DiagEvent) (s : State) : (emitDiag e s).txb = s.txb := rfl
@[simp] theorem emitDiag_rxId (e : DiagEvent) (s : State) : (emitDiag e s).rxId = s.rxId := rfl
@[simp] theorem emitDiag_txAnswer (e : DiagEvent) (s : State) : (emitDiag e s).txAnswer = s.txAnswer := rfl
@[simp] theorem emitDiag_rx (e : DiagEvent) (s : State) : (emitDiag e s).rx = s.rx := rfl
@[simp] theorem emitDiag_tx (e : DiagEvent) (s : State) : (emitDiag e s).tx = s.tx := rfl
@[simp] theorem emitDiag_diag (e : DiagEvent) (s : State) : (emitDiag e s).diag = s.diag ++ [e] := rfl
@[simp] theorem emitDiag_cfg (e : DiagEvent) (s : State) : (emitDiag e s).cfg = s.cfg := rfl
@[simp] theorem emitDiag_transportOpens (e : DiagEvent) (s : State) : (emitDiag e s).transportOpens = s.transportOpens := rfl
@[simp] theorem emitDiag_freeIndex (e : DiagEvent) (s : State) : (emitDiag e s).freeIndex = s.freeIndex := rfl

@[simp] theorem dropFrame_params (e : DecodeError) (s : State) : (dropFrame e s).params = s.params := rfl
@[simp] theorem dropFrame_phase (e : DecodeError) (s : State) : (dropFrame e s).phase = s.phase := rfl
@[simp] theorem dropFrame_frameIndex (e : DecodeError) (s : State) : (dropFrame e s).frameIndex = s.frameIndex := rfl
@[simp] theorem dropFrame_regs (e : DecodeError) (s : State) : (dropFrame e s).regs = s.regs := rfl
@[simp] theorem dropFrame_rxb (e : DecodeError) (s : State) : (dropFrame e s).rxb = s.rxb := rfl
@[simp] theorem dropFrame_txb (e : DecodeError) (s : State) : (dropFrame e s).txb = s.txb := rfl
@[simp] theorem dropFrame_rxId (e : DecodeError) (s : State) : (dropFrame e s).rxId = s.rxId := rfl
@[simp] theorem dropFrame_txAnswer (e : DecodeError) (s : State) : (dropFrame e s).txAnswer = s.txAnswer := rfl
@[simp] theorem dropFrame_rx (e : DecodeError) (s : State) : (dropFrame e s).rx = s.rx := rfl
@[simp] theorem dropFrame_tx (e : DecodeError) (s : State) : (dropFrame e s).tx = s.tx := rfl
@[simp] theorem dropFrame_diag (e : DecodeError) (s : State) : (dropFrame e s).diag = s.diag ++ [.decode e] := rfl
@[simp] theorem dropFrame_cfg (e : DecodeError) (s : State) : (dropFrame e s).cfg = s.cfg := rfl
@[simp] theorem dropFrame_transportOpens (e : DecodeError) (s : State) : (dropFrame e s).transportOpens = s.transportOpens := rfl
@[simp] theorem dropFrame_freeIndex (e : DecodeError) (s : State) : (dropFrame e s).freeIndex = s.freeIndex := rfl

@[simp] theorem ignoreResponse_params (v : Variant) (s : State) : (ignoreResponse v s).params = s.params := rfl
@[simp] theorem ignoreResponse_phase (v : Variant) (s : State) : (ignoreResponse v s).phase = s.phase := rfl
@[simp] theorem ignoreResponse_frameIndex (v : Variant) (s : State) : (ignoreResponse v s).frameIndex = s.frameIndex := rfl
@[simp] theorem ignoreResponse_regs (v : Variant) (s : State) : (ignoreResponse v s).regs = s.regs := rfl
@[simp] theorem ignoreResponse_rxb (v : Variant) (s : State) : (ignoreResponse v s).rxb = s.rxb := rfl
@[simp] theorem ignoreResponse_txb (v : Variant) (s : State) : (ignoreResponse v s).txb = s.txb := rfl
@[simp] theorem ignoreResponse_rxId (v : Variant) (s : State) : (ignoreResponse v s).rxId = s.rxId := rfl
@[simp] theorem ignoreResponse_txAnswer (v : Variant) (s : State) : (ignoreResponse v s).txAnswer = s.txAnswer := rfl
@[simp] theorem ignoreResponse_rx (v : Variant) (s : State) : (ignoreResponse v s).rx = s.rx := rfl
@[simp] theorem ignoreResponse_tx (v : Variant) (s : State) : (ignoreResponse v s).tx = s.tx := rfl
@[simp] theorem ignoreResponse_diag (v : Variant) (s : State) : (ignoreResponse v s).diag = s.diag ++ [.unexpectedResponse (s.params.tag v)] := rfl
@[simp] theorem ignoreResponse_cfg (v : Variant) (s : State) : (ignoreResponse v s).cfg = s.cfg := rfl
@[simp] theorem ignoreResponse_transportOpens (v : Variant) (s : State) : (ignoreResponse v s).transportOpens = s.transportOpens := rfl
@[simp] theorem ignoreResponse_freeIndex (v : Variant) (s : State) : (ignoreResponse v s).freeIndex = s.freeIndex := rfl

@[simp] theorem parSetValue_params (id : Byte) (v : Word) (s : State) : (parSetValue id v s).params = s.params := rfl
@[simp] theorem parSetValue_phase (id : Byte) (v : Word) (s : State) : (parSetValue id v s).phase = s.phase := rfl
@[simp] theorem parSetValue_frameIndex (id : Byte) (v : Word) (s : State) : (parSetValue id v s).frameIndex = s.frameIndex := rfl
@[simp] theorem parSetValue_regs (id : Byte) (v : Word) (s : State) : (parSetValue id v s).regs = { s.regs with par := s.regs.par.modify id.toNat fun e => { e with value := v } } := rfl
@[simp] theorem parSetValue_rxb (id : Byte) (v : Word) (s : State) : (parSetValue id v s).rxb = s.rxb := rfl
@[simp] theorem parSetValue_txb (id : Byte) (v : Word) (s : State) : (parSetValue id v s).txb = s.txb := rfl
@[simp] theorem parSetValue_rxId (id : Byte) (v : Word) (s : State) : (parSetValue id v s).rxId = s.rxId := rfl
@[simp] theorem parSetValue_txAnswer (id : Byte) (v : Word) (s : State) : (parSetValue id v s).txAnswer = s.txAnswer := rfl
@[simp] theorem parSetValue_rx (id : Byte) (v : Word) (s : State) : (parSetValue id v s).rx = s.rx := rfl
@[simp] theorem parSetValue_tx (id : Byte) (v : Word) (s : State) : (parSetValue id v s).tx = s.tx := rfl
@[simp] theorem parSetValue_diag (id : Byte) (v : Word) (s : State) : (parSetValue id v s).diag = s.diag := rfl
@[simp] theorem parSetValue_cfg (id : Byte) (v : Word) (s : State) : (parSetValue id v s).cfg = s.cfg := rfl
@[simp] theorem parSetValue_transportOpens (id : Byte) (v : Word) (s : State) : (parSetValue id v s).transportOpens = s.transportOpens := rfl
@[simp] theorem parSetValue_freeIndex (id : Byte) (v : Word) (s : State) : (parSetValue id v s).freeIndex = s.freeIndex := rfl

@[simp] theorem parSetLock_params (id : Byte) (b : Bool) (s : State) : (parSetLock id b s).params = s.params := rfl
@[simp] theorem parSetLock_phase (id : Byte) (b : Bool) (s : State) : (parSetLock id b s).phase = s.phase := rfl
@[simp] theorem parSetLock_frameIndex (id : Byte) (b : Bool) (s : State) : (parSetLock id b s).frameIndex = s.frameIndex := rfl
@[simp] theorem parSetLock_regs (id : Byte) (b : Bool) (s : State) : (parSetLock id b s).regs = { s.regs with par := s.regs.par.modify id.toNat fun e => { e with locked := b } } := rfl
@[simp] theorem parSetLock_rxb (id : Byte) (b : Bool) (s : State) : (parSetLock id b s).rxb = s.rxb := rfl
@[simp] theorem parSetLock_txb (id : Byte) (b : Bool) (s : State) : (parSetLock id b s).txb = s.txb := rfl
@[simp] theorem parSetLock_rxId (id : Byte) (b : Bool) (s : State) : (parSetLock id b s).rxId = s.rxId := rfl
@[simp] theorem parSetLock_txAnswer (id : Byte) (b : Bool) (s : State) : (parSetLock id b s).txAnswer = s.txAnswer := rfl
@[simp] theorem parSetLock_rx (id : Byte) (b : Bool) (s : State) : (parSetLock id b s).rx = s.rx := rfl
@[simp] theorem parSetLock_tx (id : Byte) (b : Bool) (s : State) : (parSetLock id b s).tx = s.tx := rfl
@[simp] theorem parSetLock_diag (id : Byte) (b : Bool) (s : State) : (parSetLock id b s).diag = s.diag := rfl
@[simp] theorem parSetLock_cfg (id : Byte) (b : Bool) (s : State) : (parSetLock id b s).cfg = s.cfg := rfl
@[simp] theorem parSetLock_transportOpens (id : Byte) (b : Bool) (s : State) : (parSetLock id b s).transportOpens = s.transportOpens := rfl
@[simp] theorem parSetLock_freeIndex (id : Byte) (b : Bool) (s : State) : (parSetLock id b s).freeIndex = s.freeIndex := rfl

@[simp] theorem takeArrival_params (a : Arrival) (rest : List Arrival) (s : State) : (takeArrival a rest s).params = s.params := rfl
@[simp] theorem takeArrival_phase (a : Arrival) (rest : List Arrival) (s : State) : (takeArrival a rest s).phase = s.phase := rfl
@[simp] theorem takeArrival_frameIndex (a : Arrival) (rest : List Arrival) (s : State) : (takeArrival a rest s).frameIndex = s.frameIndex + 1 := rfl
@[simp] theorem takeArrival_regs (a : Arrival) (rest : List Arrival) (s : State) : (takeArrival a rest s).regs = s.regs := rfl
@[simp] theorem takeArrival_rxb (a : Arrival) (rest : List Arrival) (s : State) : (takeArrival a rest s).rxb = s.rxb := rfl
@[simp] theorem takeArrival_txb (a : Arrival) (rest : List Arrival) (s : State) : (takeArrival a rest s).txb = s.txb := rfl
@[simp] theorem takeArrival_rxId (a : Arrival) (rest : List Arrival) (s : State) : (takeArrival a rest s).rxId = s.rxId := rfl
@[simp] theorem takeArrival_txAnswer (a : Arrival) (rest : List Arrival) (s : State) : (takeArrival a rest s).txAnswer = a.answer := rfl
@[simp] theorem takeArrival_rx (a : Arrival) (rest : List Arrival) (s : State) : (takeArrival a rest s).rx = rest := rfl
@[simp] theorem takeArrival_tx (a : Arrival) (rest : List Arrival) (s : State) : (takeArrival a rest s).tx = s.tx := rfl
@[simp] theorem takeArrival_diag (a : Arrival) (rest : List Arrival) (s : State) : (takeArrival a rest s).diag = s.diag := rfl
@[simp] theorem takeArrival_cfg (a : Arrival) (rest : List Arrival) (s : State) : (takeArrival a rest s).cfg = s.cfg := rfl
@[simp] theorem takeArrival_transportOpens (a : Arrival) (rest : List Arrival) (s : State) : (takeArrival a rest s).transportOpens = s.transportOpens := rfl
@[simp] theorem takeArrival_freeIndex (a : Arrival) (rest : List Arrival) (s : State) : (takeArrival a rest s).freeIndex = s.freeIndex := rfl

@[simp] theorem failStartup_params (e : DiagEvent) (s : State) : (failStartup e s).params = s.params := rfl
@[simp] theorem failStartup_phase (e : DiagEvent) (s : State) : (failStartup e s).phase = .failed := rfl
@[simp] theorem failStartup_frameIndex (e : DiagEvent) (s : State) : (failStartup e s).frameIndex = s.frameIndex := rfl
@[simp] theorem failStartup_regs (e : DiagEvent) (s : State) : (failStartup e s).regs = Config.failedRegs s.freeIndex := rfl
@[simp] theorem failStartup_rxb (e : DiagEvent) (s : State) : (failStartup e s).rxb = s.rxb := rfl
@[simp] theorem failStartup_txb (e : DiagEvent) (s : State) : (failStartup e s).txb = s.txb := rfl
@[simp] theorem failStartup_rxId (e : DiagEvent) (s : State) : (failStartup e s).rxId = s.rxId := rfl
@[simp] theorem failStartup_txAnswer (e : DiagEvent) (s : State) : (failStartup e s).txAnswer = s.txAnswer := rfl
@[simp] theorem failStartup_rx (e : DiagEvent) (s : State) : (failStartup e s).rx = s.rx := rfl
@[simp] theorem failStartup_tx (e : DiagEvent) (s : State) : (failStartup e s).tx = s.tx := rfl
@[simp] theorem failStartup_diag (e : DiagEvent) (s : State) : (failStartup e s).diag = s.diag ++ [e] := rfl
@[simp] theorem failStartup_cfg (e : DiagEvent) (s : State) : (failStartup e s).cfg = s.cfg := rfl
@[simp] theorem failStartup_transportOpens (e : DiagEvent) (s : State) : (failStartup e s).transportOpens = s.transportOpens := rfl
@[simp] theorem failStartup_freeIndex (e : DiagEvent) (s : State) : (failStartup e s).freeIndex = s.freeIndex + 1 := rfl

@[simp] theorem assertReset_params (c : CfgResult) (b : Bool) (s : State) : (s.assertReset c b).params = s.params := rfl
@[simp] theorem assertReset_phase (c : CfgResult) (b : Bool) (s : State) : (s.assertReset c b).phase = .reset := rfl
@[simp] theorem assertReset_frameIndex (c : CfgResult) (b : Bool) (s : State) : (s.assertReset c b).frameIndex = s.frameIndex := rfl
@[simp] theorem assertReset_regs (c : CfgResult) (b : Bool) (s : State) : (s.assertReset c b).regs = s.regs := rfl
@[simp] theorem assertReset_rxb (c : CfgResult) (b : Bool) (s : State) : (s.assertReset c b).rxb = s.rxb := rfl
@[simp] theorem assertReset_txb (c : CfgResult) (b : Bool) (s : State) : (s.assertReset c b).txb = s.txb := rfl
@[simp] theorem assertReset_rxId (c : CfgResult) (b : Bool) (s : State) : (s.assertReset c b).rxId = s.rxId := rfl
@[simp] theorem assertReset_txAnswer (c : CfgResult) (b : Bool) (s : State) : (s.assertReset c b).txAnswer = s.txAnswer := rfl
@[simp] theorem assertReset_rx (c : CfgResult) (b : Bool) (s : State) : (s.assertReset c b).rx = s.rx := rfl
@[simp] theorem assertReset_tx (c : CfgResult) (b : Bool) (s : State) : (s.assertReset c b).tx = s.tx := rfl
@[simp] theorem assertReset_diag (c : CfgResult) (b : Bool) (s : State) : (s.assertReset c b).diag = s.diag := rfl
@[simp] theorem assertReset_cfg (c : CfgResult) (b : Bool) (s : State) : (s.assertReset c b).cfg = c := rfl
@[simp] theorem assertReset_transportOpens (c : CfgResult) (b : Bool) (s : State) : (s.assertReset c b).transportOpens = b := rfl
@[simp] theorem assertReset_freeIndex (c : CfgResult) (b : Bool) (s : State) : (s.assertReset c b).freeIndex = s.freeIndex := rfl

@[simp] theorem withFetchWord_params (s : State) (n w : Nat) : (s.withFetchWord n w).params = s.params := rfl
@[simp] theorem withFetchWord_phase (s : State) (n w : Nat) : (s.withFetchWord n w).phase = .idle := rfl
@[simp] theorem withFetchWord_frameIndex (s : State) (n w : Nat) : (s.withFetchWord n w).frameIndex = s.frameIndex := rfl
@[simp] theorem withFetchWord_regs (s : State) (n w : Nat) : (s.withFetchWord n w).regs = s.regs := rfl
@[simp] theorem withFetchWord_rxb (s : State) (n w : Nat) : (s.withFetchWord n w).rxb = s.rxb := rfl
@[simp] theorem withFetchWord_txb (s : State) (n w : Nat) : (s.withFetchWord n w).txb = s.txb := rfl
@[simp] theorem withFetchWord_rxId (s : State) (n w : Nat) : (s.withFetchWord n w).rxId = s.rxId := rfl
@[simp] theorem withFetchWord_txAnswer (s : State) (n w : Nat) : (s.withFetchWord n w).txAnswer = s.txAnswer := rfl
@[simp] theorem withFetchWord_rx (s : State) (n w : Nat) : (s.withFetchWord n w).rx = tableWordArrival n w :: s.rx := rfl
@[simp] theorem withFetchWord_tx (s : State) (n w : Nat) : (s.withFetchWord n w).tx = s.tx := rfl
@[simp] theorem withFetchWord_diag (s : State) (n w : Nat) : (s.withFetchWord n w).diag = s.diag := rfl
@[simp] theorem withFetchWord_cfg (s : State) (n w : Nat) : (s.withFetchWord n w).cfg = s.cfg := rfl
@[simp] theorem withFetchWord_transportOpens (s : State) (n w : Nat) : (s.withFetchWord n w).transportOpens = s.transportOpens := rfl
@[simp] theorem withFetchWord_freeIndex (s : State) (n w : Nat) : (s.withFetchWord n w).freeIndex = s.freeIndex := rfl

@[simp] theorem rfSet_params (r : FlatReg) (v : r.Value) (s : State) : (rfSet r v s).params = s.params := by cases r <;> rfl
@[simp] theorem rfSet_phase (r : FlatReg) (v : r.Value) (s : State) : (rfSet r v s).phase = s.phase := by cases r <;> rfl
@[simp] theorem rfSet_frameIndex (r : FlatReg) (v : r.Value) (s : State) : (rfSet r v s).frameIndex = s.frameIndex := by cases r <;> rfl
@[simp] theorem rfSet_rxb (r : FlatReg) (v : r.Value) (s : State) : (rfSet r v s).rxb = s.rxb := by cases r <;> rfl
@[simp] theorem rfSet_txb (r : FlatReg) (v : r.Value) (s : State) : (rfSet r v s).txb = s.txb := by cases r <;> rfl
@[simp] theorem rfSet_rxId (r : FlatReg) (v : r.Value) (s : State) : (rfSet r v s).rxId = s.rxId := by cases r <;> rfl
@[simp] theorem rfSet_txAnswer (r : FlatReg) (v : r.Value) (s : State) : (rfSet r v s).txAnswer = s.txAnswer := by cases r <;> rfl
@[simp] theorem rfSet_rx (r : FlatReg) (v : r.Value) (s : State) : (rfSet r v s).rx = s.rx := by cases r <;> rfl
@[simp] theorem rfSet_tx (r : FlatReg) (v : r.Value) (s : State) : (rfSet r v s).tx = s.tx := by cases r <;> rfl
@[simp] theorem rfSet_diag (r : FlatReg) (v : r.Value) (s : State) : (rfSet r v s).diag = s.diag := by cases r <;> rfl
@[simp] theorem rfSet_cfg (r : FlatReg) (v : r.Value) (s : State) : (rfSet r v s).cfg = s.cfg := by cases r <;> rfl
@[simp] theorem rfSet_transportOpens (r : FlatReg) (v : r.Value) (s : State) : (rfSet r v s).transportOpens = s.transportOpens := by cases r <;> rfl
@[simp] theorem rfSet_freeIndex (r : FlatReg) (v : r.Value) (s : State) : (rfSet r v s).freeIndex = s.freeIndex := by cases r <;> rfl
@[simp] theorem rfSet_var_regs (id : Byte) (v : Word) (s : State) :
    (rfSet (.var id) v s).regs = { s.regs with var := s.regs.var.set id.toNat (some v) id.isLt } := rfl
@[simp] theorem rfSet_reqdata_regs (v : Vector Byte 60) (s : State) :
    (rfSet .reqdata v s).regs = { s.regs with reqdata := some v } := rfl
@[simp] theorem rfSet_nodeinfo_regs (v : Vector Byte 40) (s : State) :
    (rfSet .nodeinfo v s).regs = { s.regs with nodeinfo := some v } := rfl
@[simp] theorem rfSet_flashstatus_regs (v : Byte) (s : State) :
    (rfSet .flashstatus v s).regs = { s.regs with flashstatus := some v } := rfl

@[simp] theorem sendFrame_params (f : TxFrame) (s : State) : (sendFrame f s).params = s.params := by
  unfold sendFrame; split <;> rfl
@[simp] theorem sendFrame_phase (f : TxFrame) (s : State) : (sendFrame f s).phase = s.phase := by
  unfold sendFrame; split <;> rfl
@[simp] theorem sendFrame_frameIndex (f : TxFrame) (s : State) : (sendFrame f s).frameIndex = s.frameIndex := by
  unfold sendFrame; split <;> rfl
@[simp] theorem sendFrame_regs (f : TxFrame) (s : State) : (sendFrame f s).regs = s.regs := by
  unfold sendFrame; split <;> rfl
@[simp] theorem sendFrame_rxb (f : TxFrame) (s : State) : (sendFrame f s).rxb = s.rxb := by
  unfold sendFrame; split <;> rfl
@[simp] theorem sendFrame_rxId (f : TxFrame) (s : State) : (sendFrame f s).rxId = s.rxId := by
  unfold sendFrame; split <;> rfl
@[simp] theorem sendFrame_txAnswer (f : TxFrame) (s : State) : (sendFrame f s).txAnswer = s.txAnswer := by
  unfold sendFrame; split <;> rfl
@[simp] theorem sendFrame_rx (f : TxFrame) (s : State) : (sendFrame f s).rx = s.rx := by
  unfold sendFrame; split <;> rfl
@[simp] theorem sendFrame_cfg (f : TxFrame) (s : State) : (sendFrame f s).cfg = s.cfg := by
  unfold sendFrame; split <;> rfl
@[simp] theorem sendFrame_transportOpens (f : TxFrame) (s : State) : (sendFrame f s).transportOpens = s.transportOpens := by
  unfold sendFrame; split <;> rfl
@[simp] theorem sendFrame_freeIndex (f : TxFrame) (s : State) : (sendFrame f s).freeIndex = s.freeIndex := by
  unfold sendFrame; split <;> rfl
@[simp] theorem sendFrame_txb (f : TxFrame) (s : State) : (sendFrame f s).txb = f.data := by
  unfold sendFrame; split <;> rfl
@[simp] theorem sendFrame_tx (f : TxFrame) (s : State) :
    (sendFrame f s).tx = s.tx ++ [{ frame := f, answer := s.txAnswer }] := by
  unfold sendFrame; split <;> rfl
@[simp] theorem sendFrame_diag (f : TxFrame) (s : State) :
    (sendFrame f s).diag = s.diag ++ (if s.txAnswer = .transportError then [.transportWrite] else []) := by
  unfold sendFrame; split <;> simp_all

@[simp] theorem latchFrame_params (f : RxFrame) (s : State) : (latchFrame f s).params = s.params := by
  unfold latchFrame; split <;> rfl
@[simp] theorem latchFrame_phase (f : RxFrame) (s : State) : (latchFrame f s).phase = s.phase := by
  unfold latchFrame; split <;> rfl
@[simp] theorem latchFrame_frameIndex (f : RxFrame) (s : State) : (latchFrame f s).frameIndex = s.frameIndex := by
  unfold latchFrame; split <;> rfl
@[simp] theorem latchFrame_regs (f : RxFrame) (s : State) : (latchFrame f s).regs = s.regs := by
  unfold latchFrame; split <;> rfl
@[simp] theorem latchFrame_txb (f : RxFrame) (s : State) : (latchFrame f s).txb = s.txb := by
  unfold latchFrame; split <;> rfl
@[simp] theorem latchFrame_txAnswer (f : RxFrame) (s : State) : (latchFrame f s).txAnswer = s.txAnswer := by
  unfold latchFrame; split <;> rfl
@[simp] theorem latchFrame_rx (f : RxFrame) (s : State) : (latchFrame f s).rx = s.rx := by
  unfold latchFrame; split <;> rfl
@[simp] theorem latchFrame_tx (f : RxFrame) (s : State) : (latchFrame f s).tx = s.tx := by
  unfold latchFrame; split <;> rfl
@[simp] theorem latchFrame_diag (f : RxFrame) (s : State) : (latchFrame f s).diag = s.diag := by
  unfold latchFrame; split <;> rfl
@[simp] theorem latchFrame_cfg (f : RxFrame) (s : State) : (latchFrame f s).cfg = s.cfg := by
  unfold latchFrame; split <;> rfl
@[simp] theorem latchFrame_transportOpens (f : RxFrame) (s : State) : (latchFrame f s).transportOpens = s.transportOpens := by
  unfold latchFrame; split <;> rfl
@[simp] theorem latchFrame_freeIndex (f : RxFrame) (s : State) : (latchFrame f s).freeIndex = s.freeIndex := by
  unfold latchFrame; split <;> rfl

end Sys2Proof.Machine
end

