-- ==== Sys2Proof/Laws/Ops.lean ====
section
/-! SUPPORT. For each shared operation one lemma that says all it can do; later proofs cite it and do not unfold the
operation. -/

namespace Sys2Proof.Machine

theorem emitDiag_eq (e : DiagEvent) (s : State) : emitDiag e s = { s with diag := s.diag ++ [e] } := rfl

/-- Dropping a frame emits one event and does nothing else (R150). -/
theorem dropFrame_eq (e : DecodeError) (s : State) : dropFrame e s = { s with diag := s.diag ++ [.decode e] } := rfl

/-- Ignoring a response-direction command emits one event and does nothing else (R97). -/
theorem ignoreResponse_eq (v : Variant) (s : State) :
    ignoreResponse v s = { s with diag := s.diag ++ [.unexpectedResponse (s.params.tag v)] } := rfl

/-- The response identifier is the request's with bit 0 set, and ID.TOARB accepts it (R63, R99). -/
theorem idToArb_responseId (s : State) : idToArb (responseId s) = .ok (s.rxId ||| 1) := by
  have h (x : BitVec 11) :
      idPack { idUnpack (x.setWidth 16) with direction := .nodeToMaster } = (x ||| 1).setWidth 16 := by
    have hs : ∀ b : BitVec 2, (SpecialCmd.ofCode b).code = b := by decide
    have hp : ∀ b : BitVec 2, (Priority.ofCode b).code = b := by decide
    simp only [idPack, idUnpack, hs, hp, Direction.code]
    apply BitVec.eq_of_getLsbD_eq
    intro i hi
    simp only [BitVec.getLsbD_or, BitVec.getLsbD_setWidth, BitVec.getLsbD_shiftLeft, BitVec.getLsbD_extractLsb']
    interval_cases i <;> simp
  simp only [responseId, rxMid, h, idToArb]
  have hlt : (s.rxId ||| 1).toNat < 2 ^ 11 := (s.rxId ||| 1).isLt
  have hle : ((s.rxId ||| 1).setWidth 16).toNat < 2 ^ 11 := by
    rw [BitVec.toNat_setWidth]
    omega
  rw [if_neg (by omega)]
  congr 1
  apply BitVec.eq_of_getLsbD_eq
  intro i hi
  simp only [BitVec.getLsbD_extractLsb', BitVec.getLsbD_setWidth]
  simp [hi]
  omega

/-- Sending a frame fills TXB, hands it to TX with the environment's answer, and logs a refused one (R101, R102). -/
theorem sendFrame_eq (f : TxFrame) (s : State) :
    sendFrame f s =
      { s with
        txb := f.data
        tx := s.tx ++ [{ frame := f, answer := s.txAnswer }]
        diag := s.diag ++ (if s.txAnswer = .transportError then [.transportWrite] else []) } := by
  unfold sendFrame
  split <;> simp_all [emitDiag]

/-- `respond` always sends: the frame's identifier and data (R98, R99). -/
theorem respond_eq (resp : Instr) (s : State) :
    respond resp s = sendFrame { arbId := s.rxId ||| 1, data := responseData resp s } s := by
  simp only [respond, idToArb_responseId]

/-- Writing an entry that exists replaces its value and nothing else (R142). -/
theorem parSetValue_eq {id : Byte} {s : State} {e : ParEntry} (v : Word) (h : s.regs.par[id.toNat]? = some e) :
    parSetValue id v s =
      { s with regs := { s.regs with par := s.regs.par.set id.toNat { e with value := v } } } := by
  simp [parSetValue, List.modify_eq_set_getElem?, h]

/-- Writing the lock of an entry that exists replaces the lock and nothing else (R143). -/
theorem parSetLock_eq {id : Byte} {s : State} {e : ParEntry} (b : Bool) (h : s.regs.par[id.toNat]? = some e) :
    parSetLock id b s =
      { s with regs := { s.regs with par := s.regs.par.set id.toNat { e with locked := b } } } := by
  simp [parSetLock, List.modify_eq_set_getElem?, h]

/-- PAR.EXISTS says that the entry is there (R141). -/
theorem parExists_iff {id : Byte} {s : State} : parExists id s = true ↔ ∃ e, s.regs.par[id.toNat]? = some e := by
  simp [parExists, List.getElem?_eq_some_iff]

theorem parLocked_eq {id : Byte} {s : State} {e : ParEntry} (h : s.regs.par[id.toNat]? = some e) :
    parLocked s id = e.locked := by simp [parLocked, h]

/-- The reset sequence succeeds, or one of the three failures happens (R170, R171). -/
theorem resetSequence_cases (s : State) :
    (∃ row, wireCheck s.params = some row ∧ resetSequence s = failStartup (.sizeCheck row) s) ∨
    (wireCheck s.params = none ∧
      (s.cfg = .configError ∨ ∃ c, s.cfg = .record c ∧ (s.params.wf && c.wf) = false) ∧
      resetSequence s = failStartup .config s) ∨
    (∃ c, wireCheck s.params = none ∧ s.cfg = .record c ∧ s.params.wf = true ∧ c.wf = true ∧
      s.transportOpens = false ∧ resetSequence s = failStartup .transportOpen s) ∨
    (∃ c, wireCheck s.params = none ∧ s.cfg = .record c ∧ s.params.wf = true ∧ c.wf = true ∧
      s.transportOpens = true ∧ resetSequence s = { s with phase := .idle, regs := loadRegs c, frameIndex := 0 }) := by
  unfold resetSequence
  split
  · next row h => exact .inl ⟨row, h, rfl⟩
  · next h =>
    split
    · next h' => exact .inr (.inl ⟨h, .inl h', rfl⟩)
    · next c h' =>
      by_cases hw : (s.params.wf && c.wf) = true
      · have hw' := Bool.and_eq_true_iff.mp hw
        cases ho : s.transportOpens
        · exact .inr (.inr (.inl ⟨c, h, h', hw'.1, hw'.2, rfl, by simp [hw]⟩))
        · exact .inr (.inr (.inr ⟨c, h, h', hw'.1, hw'.2, rfl, by simp [hw]⟩))
      · simp only [Bool.not_eq_true] at hw
        exact .inr (.inl ⟨h, .inr ⟨c, h', hw⟩, by simp [hw]⟩)

/-- Taking an event waits, drops it, or finds a command (R90 to R97). -/
theorem fetch_cases (s : State) :
    (s.rx = [] ∧ fetch s = .wait) ∨
    (∃ ans rest, s.rx = { event := .rxError, answer := ans } :: rest ∧
      fetch s = .dropped (emitDiag .transportRead (takeArrival { event := .rxError, answer := ans } rest s))) ∨
    (∃ f ans rest e, s.rx = { event := .rxFrame f, answer := ans } :: rest ∧ receiveFrame s.params f = .error e ∧
      fetch s = .dropped (dropFrame e (latchFrame f (takeArrival { event := .rxFrame f, answer := ans } rest s)))) ∨
    (∃ f ans rest i, s.rx = { event := .rxFrame f, answer := ans } :: rest ∧ receiveFrame s.params f = .ok i ∧
      fetch s = .run i (latchFrame f (takeArrival { event := .rxFrame f, answer := ans } rest s))) := by
  unfold fetch
  split
  · next h => exact .inl ⟨h, rfl⟩
  · next a rest h =>
    obtain ⟨ev, ans⟩ := a
    cases ev with
    | rxError => exact .inr (.inl ⟨ans, rest, h, rfl⟩)
    | rxFrame f =>
      refine .inr (.inr ?_)
      cases hr : receiveFrame s.params f with
      | error e => exact .inl ⟨f, ans, rest, e, h, hr, by simp [hr]⟩
      | ok i => exact .inr ⟨f, ans, rest, i, h, hr, by simp [hr]⟩

/-- A frame carries a command exactly when it is of the right kind and its data decode (R91). -/
theorem receiveFrame_ok {p : Params} {f : RxFrame} {i : Instr} :
    receiveFrame p f = .ok i ↔ f.fd = true ∧ f.ext = false ∧ decodeFrame p f.data = .ok i := by
  unfold receiveFrame
  cases f.fd <;> cases f.ext <;> simp

/-- Data that decode have 64 bytes (R66). -/
theorem decodeFrame_length {p : Params} {b : List Byte} {i : Instr} (h : decodeFrame p b = .ok i) : b.length = 64 := by
  by_contra hl
  simp [decodeFrame, envUnpack, hl] at h

/-- A frame that carries a command fills RXB and the identifier latch (R94, R95). -/
theorem latchFrame_eq {p : Params} {f : RxFrame} {i : Instr} (s : State) (h : receiveFrame p f = .ok i) :
    latchFrame f s = { s with rxb := frameBuffer f.data, rxId := f.id.extractLsb' 0 11 } := by
  obtain ⟨h1, h2, h3⟩ := receiveFrame_ok.mp h
  simp [latchFrame, h1, h2, decodeFrame_length h3]

/-- RXB holds the data of a 64-byte frame. -/
theorem frameBuffer_toList {b : List Byte} (h : b.length = 64) : (frameBuffer b).toList = b := by
  apply List.ext_getElem
  · simp [h]
  · intro i h1 h2
    simp [frameBuffer, List.getElem?_eq_getElem h2]

end Sys2Proof.Machine
end

