-- ==== Sys2Proof/Laws/Exec.lean ====
section
/-! SUPPORT. What `exec` and `step` can do, said once: every claim over all instructions starts from these. -/

namespace Sys2Proof.Machine

/-- The state a request's handler leaves before the response is built: the same, or with the one register written that
the command names (R26). -/
inductive Handled (s : State) (i : Instr) : State → Prop where
  | same : Handled s i s
  | setVar (id : Byte) (v : Word) (hi : i = .setVariableReq id v) : Handled s i (rfSet (.var id) v s)
  | value (id : Byte) (v : Word) (e : ParEntry) (hi : i = .parameterSetReq id v)
      (he : s.regs.par[id.toNat]? = some e) (hl : e.locked = false) : Handled s i (parSetValue id v s)
  | lock (id : Byte) (b : Bool) (e : ParEntry) (hi : i = .parameterSetLockReq id b)
      (he : s.regs.par[id.toNat]? = some e) : Handled s i (parSetLock id b s)

/-- A handler touches the register file only. -/
theorem Handled.eq_regs {s s' : State} {i : Instr} (h : Handled s i s') : s' = { s with regs := s'.regs } := by
  cases h <;> rfl

/-- Every command either is ignored (response-direction) or is handled and answered (request-direction) (R97, R103). -/
theorem exec_cases (i : Instr) (s : State) :
    (i.variant.isResponse = true ∧ exec i s = .next (ignoreResponse i.variant s)) ∨
    (i.variant.isResponse = false ∧ ∃ resp s', resp.variant.isResponse = true ∧
      replyOf i.variant = some resp.variant ∧ Handled s i s' ∧
      exec i s = .next (respond resp s')) := by
  cases i with
  | setVariableReq id v => exact .inr ⟨rfl, .setVariableRes id v, _, rfl, rfl, .setVar id v rfl, rfl⟩
  | parameterSetReq id v =>
    refine .inr ⟨rfl, ?_⟩
    simp only [exec, execParameterSetReq]
    cases he : parExists id s
    · exact ⟨.parameterSetConf id statusInvalidParameterID 0, s, rfl, rfl, .same, rfl⟩
    · obtain ⟨e, hee⟩ := parExists_iff.mp he
      cases hl : e.locked
      · exact ⟨.parameterSetConf id statusSuccess v, _, rfl, rfl, .value id v e rfl hee hl, by
          simp [parLocked_eq hee, hl]⟩
      · exact ⟨.parameterSetConf id statusParameterLocked 0, s, rfl, rfl, .same, by simp [parLocked_eq hee, hl]⟩
  | parameterSetLockReq id b =>
    refine .inr ⟨rfl, ?_⟩
    simp only [exec, execParameterSetLockReq]
    cases he : parExists id s
    · exact ⟨.parameterSetLockConf id statusInvalidParameterID false, s, rfl, rfl, .same, rfl⟩
    · obtain ⟨e, hee⟩ := parExists_iff.mp he
      exact ⟨.parameterSetLockConf id statusSuccess b, _, rfl, rfl, .lock id b e rfl hee, rfl⟩
  | _ => first | exact .inl ⟨rfl, rfl⟩ | exact .inr ⟨rfl, _, s, rfl, rfl, .same, rfl⟩

/-- A step that answers a next state is the reset sequence, a wait, a dropped event or a command (R10, R90, R91). -/
theorem step_cases {s t : State} (h : step s = .next t) :
    (s.phase = .reset ∧ t = resetSequence s) ∨
    (s.phase = .idle ∧ s.rx = [] ∧ t = s) ∨
    (∃ ans rest, s.phase = .idle ∧ s.rx = { event := .rxError, answer := ans } :: rest ∧
      t = emitDiag .transportRead (takeArrival { event := .rxError, answer := ans } rest s)) ∨
    (∃ f ans rest e, s.phase = .idle ∧ s.rx = { event := .rxFrame f, answer := ans } :: rest ∧
      receiveFrame s.params f = .error e ∧
      t = dropFrame e (latchFrame f (takeArrival { event := .rxFrame f, answer := ans } rest s))) ∨
    (∃ f ans rest i, s.phase = .idle ∧ s.rx = { event := .rxFrame f, answer := ans } :: rest ∧
      receiveFrame s.params f = .ok i ∧
      exec i (latchFrame f (takeArrival { event := .rxFrame f, answer := ans } rest s)) = .next t) := by
  unfold step at h
  cases hp : s.phase with
  | reset => simp only [hp] at h; cases h; exact .inl ⟨rfl, rfl⟩
  | failed => simp only [hp] at h; cases h
  | idle =>
    simp only [hp] at h
    refine .inr ?_
    rcases fetch_cases s with ⟨hr, hf⟩ | ⟨ans, rest, hr, hf⟩ | ⟨f, ans, rest, e, hr, he, hf⟩ | ⟨f, ans, rest, i, hr, he, hf⟩ <;>
      simp only [hf] at h
    · cases h; exact .inl ⟨rfl, hr, rfl⟩
    · cases h; exact .inr (.inl ⟨ans, rest, rfl, hr, rfl⟩)
    · cases h; exact .inr (.inr (.inl ⟨f, ans, rest, e, rfl, hr, he, rfl⟩))
    · exact .inr (.inr (.inr ⟨f, ans, rest, i, rfl, hr, he, h⟩))

end Sys2Proof.Machine
end

