-- ==== Sys2Proof/Laws/PerInstr.lean ====
section
/-! SUPPORT. Statements made for every instruction, one lemma per constructor (LAWS.json). -/

namespace Sys2Proof.Laws.FieldsFit

/-- The fields of the instruction take exactly the payload_size of its row, and in a well-formed configuration the row
fills the wire slot (R53, R71). -/
def Statement (i : Instr) : Prop :=
  (encodeFields i).length = i.variant.payloadSize ∧ ∀ p : Params, p.wf = true → i.wf p = true

theorem any (i : Instr) : Statement i := by
  refine ⟨encodeFields_length i, fun p h => ?_⟩
  simp only [Params.wf, Bool.and_eq_true, beq_iff_eq, wireCheck] at h
  have hrow := h.2
  split at hrow
  · cases hrow
  · next hall =>
    have := List.find?_eq_none.mp hall i.variant (mem_variant_all _)
    simpa [Instr.wf] using this

theorem resetAllSettingsReq : Statement .resetAllSettingsReq := any _
theorem resetAllSettingsRes : Statement .resetAllSettingsRes := any _
theorem statusReq : Statement .statusReq := any _
theorem statusRes : Statement .statusRes := any _
theorem setVariableReq (id : Byte) (value : Word) : Statement (.setVariableReq id value) := any _
theorem setVariableRes (id : Byte) (value : Word) : Statement (.setVariableRes id value) := any _
theorem getVariableReq (id : Byte) : Statement (.getVariableReq id) := any _
theorem getVariableRes (id : Byte) (value : Word) : Statement (.getVariableRes id value) := any _
theorem syncClockReq : Statement .syncClockReq := any _
theorem syncClockRes : Statement .syncClockRes := any _
theorem dataReq : Statement .dataReq := any _
theorem dataRes (channelMask : Word) (data : Vector Byte 56) : Statement (.dataRes channelMask data) := any _
theorem nodeInfoReq : Statement .nodeInfoReq := any _
theorem nodeInfoRes (firmwareVersion channelMask : Word) (channelType : Vector Byte 32) :
    Statement (.nodeInfoRes firmwareVersion channelMask channelType) := any _
theorem flashClearReq : Statement .flashClearReq := any _
theorem flashStatusRes (status : Byte) : Statement (.flashStatusRes status) := any _
theorem heartbeatReq (counter : Word) : Statement (.heartbeatReq counter) := any _
theorem heartbeatRes (counter : Word) : Statement (.heartbeatRes counter) := any _
theorem parameterSetReq (id : Byte) (value : Word) : Statement (.parameterSetReq id value) := any _
theorem parameterSetConf (id status : Byte) (value : Word) : Statement (.parameterSetConf id status value) := any _
theorem parameterSetLockReq (id : Byte) (lock : Bool) : Statement (.parameterSetLockReq id lock) := any _
theorem parameterSetLockConf (id status : Byte) (lock : Bool) : Statement (.parameterSetLockConf id status lock) := any _
theorem nodeInfoExtReq : Statement .nodeInfoExtReq := any _
theorem nodeInfoExtRes (telCount parCount : Byte) (firmwareHash liquidHash : Word) (deviceName : Vector Byte 52) :
    Statement (.nodeInfoExtRes telCount parCount firmwareHash liquidHash deviceName) := any _

end Sys2Proof.Laws.FieldsFit
end

