-- ==== Sys2Proof/Laws/Response.lean ====
section
/-! SUPPORT. The response as bytes: what `respond` hands to TX, said once in the terms of Safety.lean. -/

namespace Sys2Proof.Machine

/-- A u32 field in frame order (R32). -/
theorem le32_eq_wordBytes (v : Word) : le32 v = wordBytes v := by
  simp only [le32, leBytes, wordBytes, List.cons.injEq, and_true]
  refine ⟨?_, ?_, ?_, ?_⟩ <;> apply BitVec.eq_of_toNat_eq <;>
    simp only [BitVec.toNat_ofNat, BitVec.extractLsb'_toNat, Nat.shiftRight_eq_div_pow] <;> omega

/-- Byte 0 of a frame as a number (R65). -/
theorem envByte0_eq_ofNat (c : BitVec 6) (b : BufferType) :
    envByte0 c b = BitVec.ofNat 8 (c.toNat + 64 * b.code.toNat) := by
  cases b <;> revert c <;> decide

/-- channel_id of byte 0 as a number (R66). -/
theorem channelOf_toNat (b : Byte) : (channelOf b).toNat = b.toNat % 64 := by revert b; decide

/-- The 64 bytes of a frame that carries an encoded command: byte 0, the tag, the fields, zeros (R65, R73). -/
theorem wrapWire_wireEnc_toList (c : BitVec 6) (bt : BufferType) (p : Params) (i : Instr) :
    (wrapWire c bt (wireEnc p i)).toList =
      envByte0 c bt :: p.tag i.variant :: (encodeFields i ++ List.replicate (62 - (encodeFields i).length) 0) := by
  have hl := payloadSize_le i.variant
  apply List.ext_getElem
  · simp; omega
  · intro k h1 h2
    simp only [wrapWire, envPack, wireEnc, Vector.getElem_toList, Vector.getElem_ofFn, u8At]
    match k, h1, h2 with
    | 0, _, _ => rfl
    | 1, _, _ => simp
    | k + 2, h1, h2 =>
      simp only [List.cons_append, List.drop_one, List.tail_cons, List.getD_cons_succ, List.getElem_cons_succ]
      by_cases h : k < (encodeFields i).length
      · rw [List.getD_eq_getElem?_getD, List.getElem?_append_left h, List.getElem_append_left h,
          List.getElem?_eq_getElem h]
        rfl
      · rw [List.getD_eq_getElem?_getD, List.getElem?_append_right (by omega), List.getElem_append_right (by omega)]
        simp only [List.getElem?_replicate, List.getElem_replicate]
        split <;> rfl

/-- All that `respond` does, after a handler that touched the register file only: one frame with the response's tag and
fields, one event when it is refused, nothing else; the register file stays (R98 to R102). -/
theorem respond_answers {s s' : State} (resp : Instr) (h : s' = { s with regs := s'.regs }) :
    Answers s (respond resp s') (s.params.tag resp.variant) (encodeFields resp) ∧
      (respond resp s').regs = s'.regs := by
  rw [h, respond_eq, sendFrame_eq]
  refine ⟨⟨⟨_, rfl, rfl, rfl, ?_⟩, rfl, rfl⟩, rfl⟩
  simp only [responseData, rxChannelId]
  rw [wrapWire_wireEnc_toList, envByte0_eq_ofNat, channelOf_toNat]
  rfl

end Sys2Proof.Machine
end

