-- ==== Sys2Proof/Tests/Slice0.lean ====
section
/-! SUPPORT. Tests with their expected results taken from the spec's own vectors (spec/95_test_vectors.md, row names in
the docstrings), the smoke tests of the static checks, and for every statement with hypotheses a witness that meets them
together. -/

namespace Sys2Proof.Tests

open Sys2Proof.Machine

/-! ### Helpers -/

/-- `00..`: zero bytes to the end of the 64 data bytes. -/
def pad64 (b : List Byte) : List Byte := b ++ List.replicate (64 - b.length) 0

/-- A CAN-FD, standard-addressed frame with identifier 0x58A (R58). -/
def frame (b : List Byte) : RxFrame := { fd := true, ext := false, id := 0x58A, data := pad64 b }

def arrival (b : List Byte) : Arrival := { event := .rxFrame (frame b), answer := .ok }

/-- PAR[0] = 10, unlocked; PAR[1] = 7, locked (row Y7). -/
def twoPars : List ParEntry :=
  [{ value := 10, locked := false, dtype := .uint32 }, { value := 7, locked := true, dtype := .uint8 }]

/-- A loaded register file: VAR[3] = 42, FLASHSTATUS = 1, two parameters, one telemetry value. -/
def loaded : Regs :=
  { clearedRegs with
    var := clearedRegs.var.set 3 (some 42)
    flashstatus := some 1
    firmwareHash := 0xDEADBEEF
    liquidHash := 0x12345678
    par := twoPars
    tel := [{ value := 5, dtype := .float32 }] }

/-- A serving machine with `loaded` and the given events to come. -/
def serving (rx : List Arrival) : State := { State.reset with regs := loaded, rx := rx }

/-- The state after one step. -/
def after (s : State) : State :=
  match step s with
  | .next t => t
  | .fault _ => s
  | .refused _ => s

/-- The frames handed to TX, as identifier and data. -/
def sent (s : State) : List (Nat × List Byte) := s.tx.map fun r => (r.frame.arbId.toNat, r.frame.data.toList)

/-- What one frame step of a serving machine sends on the data bytes `b`. -/
def reply (b : List Byte) : List (Nat × List Byte) := sent (after (serving [arrival b]))

/-- One frame step on the data bytes `b`, seen through `view`. -/
def look {α : Type} (view : State → α) (b : List Byte) : α := view (after (serving [arrival b]))

/-! ### Decoding: words written out from the encodings of R52 and R53 -/

def decoded (b : List Byte) : Option Instr :=
  match decodeFrame .default (pad64 b) with
  | .ok i => some i
  | .error _ => none

def decodeError (b : List Byte) : Option DecodeError :=
  match decodeFrame .default b with
  | .ok _ => none
  | .error e => some e

/-- W1 to W4, W9, W10. -/
theorem test_decode_acknowledge :
    [[0x3F, 0], [0x3F, 1], [0x3F, 2], [0x3F, 3], [0x3F, 8], [0x3F, 9]].map decoded =
      [some .resetAllSettingsReq, some .resetAllSettingsRes, some .statusReq, some .statusRes, some .syncClockReq,
        some .syncClockRes] := by decide

/-- W5 to W8. -/
theorem test_decode_variables :
    [[0x3F, 4, 3, 0x2A], [0x3F, 5, 0xFF, 0xFF, 0xFF, 0xFF, 0xFF], [0x3F, 6, 7], [0x3F, 7, 7, 4, 3, 2, 1]].map decoded =
      [some (.setVariableReq 3 42), some (.setVariableRes 255 0xFFFFFFFF), some (.getVariableReq 7),
        some (.getVariableRes 7 0x01020304)] := by decide

/-- W11, W13, W15, W16, W23. -/
theorem test_decode_slots :
    [[0x3F, 10], [0x3F, 12], [0x3F, 14], [0x3F, 15, 1], [0x3F, 22]].map decoded =
      [some .dataReq, some .nodeInfoReq, some .flashClearReq, some (.flashStatusRes 1), some .nodeInfoExtReq] := by
  decide

/-- W12: the mask at bytes 2..5, the data at 6..61, the pad at 62, 63. -/
theorem test_decode_dataRes :
    decoded ([0x3F, 11, 0x0F, 0, 0, 0, 0xA0] ++ List.replicate 54 0xA1 ++ [0xD7, 0xEE, 0xEE]) =
      some (.dataRes 15 ⟨⟨0xA0 :: (List.replicate 54 0xA1 ++ [0xD7])⟩, rfl⟩) := by decide +kernel

/-- W14: the version at bytes 2..5, the mask at 6..9, the types at 10..41. -/
theorem test_decode_nodeInfoRes :
    decoded ([0x3F, 13, 3, 2, 1, 0, 1, 0, 0, 0x80, 0x01] ++ List.replicate 30 0x02 ++ [0x20, 0xEE]) =
      some (.nodeInfoRes 0x00010203 0x80000001 ⟨⟨0x01 :: (List.replicate 30 0x02 ++ [0x20])⟩, rfl⟩) := by decide

/-- W24: the name reaches the last byte. -/
theorem test_decode_nodeInfoExtRes :
    decoded ([0x3F, 23, 3, 2, 0xEF, 0xBE, 0xAD, 0xDE, 0x78, 0x56, 0x34, 0x12] ++ List.replicate 51 0x41 ++ [0x42]) =
      some (.nodeInfoExtRes 3 2 0xDEADBEEF 0x12345678 ⟨⟨List.replicate 51 0x41 ++ [0x42]⟩, rfl⟩) := by decide +kernel

/-- W17, W18. -/
theorem test_decode_heartbeat :
    [[0x3F, 16, 5], [0x3F, 17, 6], [0x3F, 16, 0, 0, 0, 1]].map decoded =
      [some (.heartbeatReq 5), some (.heartbeatRes 6), some (.heartbeatReq 0x01000000)] := by decide

/-- W19 to W22, V3, V4. -/
theorem test_decode_parameters :
    [[0x3F, 18, 1, 0x63], [0x3F, 19, 1, 2, 0, 0, 0, 9], [0x3F, 20, 1, 1], [0x3F, 21, 1, 0, 1], [0x3F, 20, 1, 0x80],
        [0x3F, 21, 1, 0xFF, 2]].map decoded =
      [some (.parameterSetReq 1 99), some (.parameterSetConf 1 2 0x09000000), some (.parameterSetLockReq 1 true),
        some (.parameterSetLockConf 1 0 true), some (.parameterSetLockReq 1 true),
        some (.parameterSetLockConf 1 255 true)] := by decide

/-- V1, H6 to H8: pad bytes and buffer type are not read. -/
theorem test_decode_pad_and_buffer_type :
    [[0x3F, 6, 7, 0xEE, 0xEE], [0x7F, 6, 7], [0xBF, 6, 7], [0xFF, 6, 7]].map decoded =
      List.replicate 4 (some (.getVariableReq 7)) := by decide

/-- D6, D9, D10, D12, D13 and a frame of 65 bytes. -/
theorem test_decode_refuses :
    [[], List.replicate 63 0x3F, pad64 [0x00, 0x10], pad64 [0x7E, 0x63], pad64 [0x3F, 0x18], List.replicate 65 0].map
        decodeError =
      [some (.length 0), some (.length 63), some (.unknownChannel 0), some (.unknownChannel 62),
        some (.unknownTag 0x18), some (.length 65)] := by decide

/-- V8, V9, V11, V13 to V15. -/
theorem test_wireDec_failures :
    wireDec .default [] = .error (.shortPayload none 0 1) ∧
    wireDec .default [6] = .error (.shortPayload (some 6) 0 1) ∧
    wireDec .default [4, 3, 0x2A, 0, 0] = .error (.shortPayload (some 4) 4 5) ∧
    wireDec .default (11 :: List.replicate 59 0) = .error (.shortPayload (some 11) 59 60) ∧
    wireDec .default (23 :: List.replicate 61 0) = .error (.shortPayload (some 23) 61 62) ∧
    wireDec .default [0xC8] = .error (.unknownTag 0xC8) := by decide

/-- W5, W20, W24, as sent in a frame. -/
theorem test_encode :
    (encode .default (.setVariableReq 3 42)).toList = pad64 [0x3F, 4, 3, 0x2A] ∧
    (encode .default (.parameterSetConf 1 2 0)).toList = pad64 [0x3F, 0x13, 1, 2] ∧
    (encode .default (.nodeInfoExtRes 3 2 0xDEADBEEF 0x12345678 (Vector.replicate 52 0x41))).toList =
      [0x3F, 0x17, 3, 2, 0xEF, 0xBE, 0xAD, 0xDE, 0x78, 0x56, 0x34, 0x12] ++ List.replicate 52 0x41 := by decide

/-- I12, I13, I15, I16. -/
theorem test_idPack :
    idPack ⟨.nodeToMaster, 63, .standard, .low⟩ = 0x07FF ∧ idPack ⟨.masterToNode, 5, .standard, .standard⟩ = 0x058A ∧
    idPack ⟨.masterToNode, 21, .info, .high⟩ = 0x032A ∧ idPack ⟨.nodeToMaster, 42, .clockSync, .standard⟩ = 0x04D5 := by
  decide

/-- J10, J11, J13. -/
theorem test_idUnpack :
    idUnpack 0xFFFF = ⟨.nodeToMaster, 63, .standard, .low⟩ ∧
    idUnpack 0x858A = ⟨.masterToNode, 5, .standard, .standard⟩ ∧
    idUnpack 0x02AA = ⟨.masterToNode, 21, .clockSync, .high⟩ := by decide

/-- B3, B4. -/
theorem test_idToArb :
    idToArb 0x07FF = .ok 0x7FF ∧ idToArb 0x0800 = .error (.outOfRange 0x0800) := by decide

/-- E5, E8. -/
theorem test_envPack :
    (envPack 1 .absolute 2 [0xAA]).toList = pad64 [0x41, 2, 0xAA] ∧
    (envPack 0 .reserved 0 (List.replicate 61 0 ++ [0xFF])).toList = 0xC0 :: (List.replicate 62 0 ++ [0xFF]) := by
  decide

/-! ### The static checks refuse ill-formed terms -/

/-- K2: SET_VARIABLE_REQ's pad declared 56. -/
def padK2 : Params := { Params.default with pads := Params.default.pads.set 4 56 }

/-- K4: TAG_HEARTBEAT_REQ equal to TAG_SET_VARIABLE_REQ. -/
def tagsK4 : Params := { Params.default with tags := Params.default.tags.set 16 4 }

/-- Every row one byte longer: WIRE.CHECK passes, but 1 + PAYLOAD_LEN is 63 (R4). -/
def wide : Params :=
  { Params.default with
    wireSize := 64
    pads := #v[63, 63, 63, 63, 58, 58, 62, 58, 63, 63, 63, 3, 63, 23, 63, 62, 59, 59, 58, 57, 61, 60, 63, 1] }

/-- K1 to K4. -/
theorem test_wireCheck :
    wireCheck .default = none ∧ wireCheck padK2 = some .setVariableReq ∧
    wireCheck { Params.default with wireSize := 64 } = some .resetAllSettingsReq ∧
    wireCheck tagsK4 = some .heartbeatReq := by decide

theorem test_paramsWf_refuses :
    Params.default.wf = true ∧ padK2.wf = false ∧ tagsK4.wf = false ∧ wireCheck wide = none ∧ wide.wf = false := by
  decide

theorem test_instrWf_refuses :
    (Instr.setVariableReq 3 42).wf .default = true ∧ (Instr.setVariableReq 3 42).wf padK2 = false ∧
    (Instr.setVariableRes 3 42).wf padK2 = true := by decide

/-- The largest record of R23: 53 name bytes, 255 parameters, 255 telemetry values. -/
def largestCfg : CfgRecord :=
  { CfgRecord.empty with
    deviceName := List.replicate 53 0x30
    par := List.replicate 255 { value := 0, locked := false, dtype := .int8 }
    tel := List.replicate 255 { value := 0, dtype := .int8 } }

def longName : CfgRecord := { CfgRecord.empty with deviceName := List.replicate 54 0x30 }

theorem test_cfgWf_refuses :
    largestCfg.wf = true ∧ longName.wf = false ∧
    { CfgRecord.empty with par := List.replicate 256 { value := 0, locked := false, dtype := .int8 } }.wf = false ∧
    { CfgRecord.empty with tel := List.replicate 256 { value := 0, dtype := .int8 } }.wf = false := by decide +kernel

/-! ### The commands, one step each -/

/-- G2: nothing is reset. -/
theorem test_resetAllSettingsReq :
    reply ([0x3F, 0] ++ List.replicate 62 0xFF) = [(0x58B, pad64 [0x3F, 1])] ∧
    look (fun s => (varPresent s 3, s.regs.par)) [0x3F, 0] = (true, twoPars) := by decide +kernel

/-- G3. -/
theorem test_statusReq : reply [0x3F, 2] = [(0x58B, pad64 [0x3F, 3])] := by decide

/-- G6, with the neighbour untouched. -/
theorem test_setVariableReq :
    reply [0x3F, 4, 0xFF, 0xFF, 0xFF, 0xFF, 0x7F] = [(0x58B, pad64 [0x3F, 5, 0xFF, 0xFF, 0xFF, 0xFF, 0x7F])] ∧
    look (fun s => (rfGet (.var 255) s, rfGet (.var 254) s, rfGet (.var 3) s)) [0x3F, 4, 0xFF, 0xFF, 0xFF, 0xFF, 0x7F] =
      (some 0x7FFFFFFF, none, some 42) := by decide

/-- G9, G10. -/
theorem test_getVariableReq :
    reply [0x3F, 6, 3] = [(0x58B, pad64 [0x3F, 7, 3, 0x2A])] ∧ reply [0x3F, 6, 7] = [(0x58B, pad64 [0x3F, 7, 7])] := by
  decide

/-- G13. -/
theorem test_syncClockReq : reply [0x3F, 8] = [(0x58B, pad64 [0x3F, 9])] := by decide

/-- G14, and G15 with other bytes. -/
theorem test_dataReq :
    reply [0x3F, 10] = [(0x58B, pad64 [0x3F, 11])] ∧
    sent (after { serving [arrival [0x3F, 10]] with
        regs := { loaded with reqdata := some ⟨⟨[1, 2, 3, 4, 5] ++ List.replicate 55 6⟩, rfl⟩ } }) =
      [(0x58B, [0x3F, 11, 1, 2, 3, 4, 5] ++ List.replicate 55 6 ++ [0, 0])] := by decide +kernel

/-- G16, and G17 with other bytes. -/
theorem test_nodeInfoReq :
    reply [0x3F, 12] = [(0x58B, pad64 [0x3F, 13])] ∧
    sent (after { serving [arrival [0x3F, 12]] with
        regs := { loaded with nodeinfo := some ⟨⟨[1, 2, 3, 4, 5, 6, 7, 8, 9] ++ List.replicate 31 10⟩, rfl⟩ } }) =
      [(0x58B, pad64 ([0x3F, 13, 1, 2, 3, 4, 5, 6, 7, 8, 9] ++ List.replicate 31 10))] := by decide

/-- G19: nothing is cleared. -/
theorem test_flashClearReq :
    reply [0x3F, 14] = [(0x58B, pad64 [0x3F, 15, 1])] ∧ look flashstatusPresent [0x3F, 14] = true := by decide

/-- Y3, Y6. -/
theorem test_heartbeatReq :
    reply [0x3F, 16, 0xFF, 0xFF, 0xFF, 0xFF] = [(0x58B, pad64 [0x3F, 17])] ∧
    reply [0x3F, 16, 0xFF, 0xFF, 0xFE, 0xFF] = [(0x58B, pad64 [0x3F, 17, 0, 0, 0xFF, 0xFF])] := by decide

/-- Y7, Y8, Y9: the replies. -/
theorem test_parameterSetReq :
    reply [0x3F, 18, 0, 0x63] = [(0x58B, pad64 [0x3F, 19, 0, 0, 0x63])] ∧
    reply [0x3F, 18, 1, 0x63] = [(0x58B, pad64 [0x3F, 19, 1, 2])] ∧
    reply [0x3F, 18, 2, 0x63] = [(0x58B, pad64 [0x3F, 19, 2, 1])] := by decide

/-- Y7, Y8: the table. -/
theorem test_parameterSetReq_table :
    look (fun s => s.regs.par.map (·.value)) [0x3F, 18, 0, 0x63] = [99, 7] ∧
    look (fun s => s.regs.par.map (·.value)) [0x3F, 18, 1, 0x63] = [10, 7] := by decide

/-- Y14, Y15, Y17, Y18: the replies. -/
theorem test_parameterSetLockReq :
    reply [0x3F, 20, 0, 1] = [(0x58B, pad64 [0x3F, 21, 0, 0, 1])] ∧
    reply [0x3F, 20, 1, 0] = [(0x58B, pad64 [0x3F, 21, 1, 0, 0])] ∧
    reply [0x3F, 20, 2, 1] = [(0x58B, pad64 [0x3F, 21, 2, 1, 0])] ∧
    reply [0x3F, 20, 0, 0x80] = [(0x58B, pad64 [0x3F, 21, 0, 0, 1])] := by decide

/-- Y15, Y18: the table. -/
theorem test_parameterSetLockReq_table :
    look (fun s => s.regs.par.map (·.locked)) [0x3F, 20, 1, 0] = [false, false] ∧
    look (fun s => s.regs.par.map (·.locked)) [0x3F, 20, 0, 0x80] = [true, true] := by decide

/-- Y21 with one telemetry value and no name; Y22's truncation of the name. -/
theorem test_nodeInfoExtReq :
    reply [0x3F, 22] = [(0x58B, pad64 [0x3F, 23, 1, 2, 0xEF, 0xBE, 0xAD, 0xDE, 0x78, 0x56, 0x34, 0x12])] ∧
    sent (after { serving [arrival [0x3F, 22]] with
        regs := { loaded with deviceName := ⟨⟨List.replicate 51 0x30 ++ [0x63, 0x64]⟩, rfl⟩ } }) =
      [(0x58B, [0x3F, 23, 1, 2, 0xEF, 0xBE, 0xAD, 0xDE, 0x78, 0x56, 0x34, 0x12] ++ List.replicate 51 0x30 ++ [0x63])] :=
  by decide

/-- A1 to A12: no frame, one event with the tag. -/
theorem test_responses_ignored :
    [1, 3, 5, 7, 9, 11, 13, 15, 17, 19, 21, 23].map (fun t => look (fun s => (s.tx, s.diag)) [0x3F, t, 1, 1, 9]) =
      [1, 3, 5, 7, 9, 11, 13, 15, 17, 19, 21, 23].map (fun t => ([], [.unexpectedResponse t])) := by decide

/-- H3 and H4: the response identifier is the request's with bit 0 set. -/
theorem test_response_identifier :
    sent (after (serving [{ event := .rxFrame { frame [0x3F, 16, 5] with id := 0x7FE }, answer := .ok }])) =
      [(0x7FF, pad64 [0x3F, 17, 6])] ∧
    sent (after (serving [{ event := .rxFrame { frame [0xFF, 16, 5] with id := 0x58B }, answer := .ok }])) =
      [(0x58B, pad64 [0x3F, 17, 6])] := by decide

/-- F1: the write stands, the failure is logged. -/
theorem test_failed_send :
    (fun s : State => (rfGet (.var 9) s, s.diag, s.tx.length))
        (after (serving [{ event := .rxFrame (frame [0x3F, 4, 9, 0x44, 0x33, 0x22, 0x11]), answer := .transportError }])) =
      (some 0x11223344, [.transportWrite], 1) := by decide

/-- D1, D4, D9, D10, D13: the codes and that nothing is sent. -/
theorem test_drops :
    [RxEvent.rxError, .rxFrame { frame [0x3F, 16] with ext := true }, .rxFrame { frame [] with data := [0x3F] },
        .rxFrame (frame [0, 16]), .rxFrame (frame [0x3F, 0x18])].map
      (fun e => (fun s : State => (s.diag.map (·.code), s.tx, s.rx)) (after (serving [{ event := e, answer := .ok }]))) =
      [([1], [], []), ([2], [], []), ([3], [], []), ([4], [], []), ([5], [], [])] := by decide

/-- R170: a successful reset, a failed one, and that no step follows. -/
theorem test_reset :
    (fun s : State => (s.phase, s.diag)) (after (State.reset.assertReset (.record .empty) true)) = (.idle, []) ∧
    (fun s : State => (s.phase, s.diag)) (after (State.reset.assertReset .configError true)) = (.failed, [.config]) ∧
    (fun s : State => (s.phase, s.diag)) (after (State.reset.assertReset (.record .empty) false)) =
      (.failed, [.transportOpen]) ∧
    step { State.reset with phase := .failed } = .fault .startupFailed := by
  refine ⟨by decide, by decide, by decide, rfl⟩

/-- An opcode-table word is fetched and run as the first instruction after reset. -/
theorem test_withFetchWord :
    sent (after (State.reset.withFetchWord 16 0x103F)) = [(1, pad64 [0x3F, 17, 1])] := by decide

/-! ### Witnesses: the hypotheses of each statement met together -/

theorem witness_ToArbFailsExactlyAboveElevenBits :
    (∀ k, 11 ≤ k → (0x07FF : BitVec 16).getLsbD k = false) ∧ ∃ k, 11 ≤ k ∧ (0x0800 : BitVec 16).getLsbD k = true := by
  refine ⟨fun k hk => ?_, 11, by decide, by decide⟩
  by_cases h : k < 16
  · interval_cases k <;> decide
  · exact BitVec.getLsbD_of_ge _ _ (by omega)

/-- A payload of 62 bytes, and lengths on both sides of 64. -/
theorem witness_EnvPackBytes_EnvUnpackFields_EnvelopeCodecLaws :
    (List.replicate 62 (1 : Byte)).length ≤ 62 ∧ (List.replicate 62 (1 : Byte)).length = 62 ∧
    (List.replicate 64 (1 : Byte)).length = 64 ∧ (List.replicate 63 (1 : Byte)).length ≠ 64 := by decide

/-- V1 and V3: words that are not canonical. -/
theorem witness_WireCodecLaws :
    Params.default.wf = true ∧
    ([6, 7] ++ List.replicate 61 (0xEE : Byte)).length = 63 ∧
    wireDec .default ([6, 7] ++ List.replicate 61 0xEE) = .ok (.getVariableReq 7) ∧
    ([20, 1, 0x80] ++ List.replicate 60 (0 : Byte)).length = 63 ∧
    wireDec .default ([20, 1, 0x80] ++ List.replicate 60 0) = .ok (.parameterSetLockReq 1 true) := by decide

/-- The first unassigned tag; four and five bytes for a five-byte body. -/
theorem witness_WireDecodeFailures :
    (∀ v, Params.default.tag v ≠ 0x18) ∧ Params.default.wf = true ∧
    ([3, 0x2A, 0, 0] : List Byte).length < Variant.setVariableReq.payloadSize ∧
    Variant.setVariableReq.payloadSize ≤ ([3, 0x2A, 0, 0, 0] : List Byte).length :=
  ⟨fun v => by cases v <;> decide, by decide, by decide, by decide⟩

theorem witness_SizeCheckExact_FrameDecodeOfEncode :
    (∀ v : Variant, 1 + v.payloadSize + Params.default.pad v = Params.default.wireSize) ∧
    tagsK4.tag .heartbeatReq = tagsK4.tag .setVariableReq ∧ Params.default.wf = true :=
  ⟨fun v => by cases v <;> decide, by decide, by decide⟩

/-- A SET_VARIABLE_REQ at the head of RX. -/
theorem witness_StepRunsDecodedInstruction :
    (serving [arrival [0x3F, 4, 3, 0x2B]]).phase = .idle ∧
    (serving [arrival [0x3F, 4, 3, 0x2B]]).rx = [{ event := .rxFrame (frame [0x3F, 4, 3, 0x2B]), answer := .ok }] ∧
    (frame [0x3F, 4, 3, 0x2B]).fd = true ∧ (frame [0x3F, 4, 3, 0x2B]).ext = false ∧
    decodeFrame .default (frame [0x3F, 4, 3, 0x2B]).data = .ok (.setVariableReq 3 43) :=
  ⟨rfl, rfl, rfl, rfl, by decide⟩

theorem witness_ReadErrorIsSkipped :
    (serving [{ event := .rxError, answer := .ok }]).phase = .idle ∧
    (serving [{ event := .rxError, answer := .ok }]).rx = [{ event := .rxError, answer := .ok }] := ⟨rfl, rfl⟩

/-- Each of the four defects, alone and together with later ones, and none. -/
theorem witness_FirstDefectIsReported :
    [{ frame [0, 0x18] with fd := false, data := [] }, { frame [] with data := List.replicate 63 0 }, frame [0x7E, 0x63],
        frame [0x3F, 0x18], frame [0x3F, 23]].map (frameDefect .default) =
      [some (.frameKind false false), some (.length 63), some (.unknownChannel 62), some (.unknownTag 0x18), none] := by
  decide

/-- A step with an event, a step without one. -/
theorem witness_FrameStepCompletes :
    (serving []).phase = .idle ∧ (serving []).rx = [] ∧ (serving [arrival [0x3F, 2]]).phase = .idle := ⟨rfl, rfl, rfl⟩

/-- A step that sends. -/
theorem witness_EveryFrameSentAnswersItsRequest :
    step (serving [arrival [0x3F, 2]]) = .next (after (serving [arrival [0x3F, 2]])) ∧
    (after (serving [arrival [0x3F, 2]])).tx.length = 1 := ⟨rfl, by decide⟩

/-- Steps that write each of the three kinds of register. -/
theorem witness_OnlyTheNamedRegisterIsWritten_LoadedOnceStaysFixed :
    (serving [arrival [0x3F, 4, 3, 9]]).phase = .idle ∧
    step (serving [arrival [0x3F, 4, 3, 9]]) = .next (after (serving [arrival [0x3F, 4, 3, 9]])) ∧
    look (rfGet (.var 3)) [0x3F, 4, 3, 9] = some (9 : Word) ∧
    look (fun s => s.regs.par.map (·.value)) [0x3F, 18, 0, 9] = [9, 7] ∧
    look (fun s => s.regs.par.map (·.locked)) [0x3F, 20, 0, 1] = [true, true] :=
  ⟨rfl, rfl, by decide, by decide, by decide⟩

/-- A write to the locked PAR[1]. -/
theorem witness_LockedParameterKeepsItsValue :
    (serving [arrival [0x3F, 18, 1, 9]]).phase = .idle ∧
    step (serving [arrival [0x3F, 18, 1, 9]]) = .next (after (serving [arrival [0x3F, 18, 1, 9]])) ∧
    (serving [arrival [0x3F, 18, 1, 9]]).regs.par[1]? = some { value := 7, locked := true, dtype := .uint8 } :=
  ⟨rfl, rfl, rfl⟩

/-- Two frames of one command with different identifier, buffer type and pad. -/
theorem witness_IdentifierBufferTypeAndPadAreNotExamined :
    (serving []).phase = .idle ∧
    (frame [0x3F, 4, 3, 9]).fd = true ∧ (frame [0x3F, 4, 3, 9]).ext = false ∧
    ({ frame [0xFF, 4, 3, 9, 0, 0, 0, 0xEE] with id := 0x07F } : RxFrame).fd = true ∧
    ({ frame [0xFF, 4, 3, 9, 0, 0, 0, 0xEE] with id := 0x07F } : RxFrame).ext = false ∧
    (frame [0x3F, 4, 3, 9]).data.length = 64 ∧ (frame [0xFF, 4, 3, 9, 0, 0, 0, 0xEE]).data.length = 64 ∧
    ((frame [0x3F, 4, 3, 9]).data.getD 0 0).toNat % 64 =
      ((frame [0xFF, 4, 3, 9, 0, 0, 0, 0xEE]).data.getD 0 0).toNat % 64 ∧
    (frame [0x3F, 4, 3, 9]).data.getD 1 0 = (frame [0xFF, 4, 3, 9, 0, 0, 0, 0xEE]).data.getD 1 0 ∧
    (∀ v : Variant, (serving []).params.tag v = (frame [0x3F, 4, 3, 9]).data.getD 1 0 → ∀ k, k < v.payloadSize →
      (frame [0x3F, 4, 3, 9]).data.getD (2 + k) 0 = (frame [0xFF, 4, 3, 9, 0, 0, 0, 0xEE]).data.getD (2 + k) 0) := by
  refine ⟨rfl, rfl, rfl, rfl, rfl, by decide, by decide, by decide, by decide, fun v hv k hk => ?_⟩
  cases v with
  | setVariableReq =>
    have : k < 5 := hk
    interval_cases k <;> decide
  | _ => exact absurd hv (by decide)

theorem witness_FailedSendKeepsTheWrite : (serving []).phase = .idle := rfl

/-- A serving step that logs and a reset step that logs. -/
theorem witness_ReportedCodes :
    step (serving [arrival [0x3F, 0x18]]) = .next (after (serving [arrival [0x3F, 0x18]])) ∧
    look (fun s => s.diag.map (·.code)) [0x3F, 0x18] = [5] ∧
    step (State.reset.assertReset .configError true) = .next (after (State.reset.assertReset .configError true)) ∧
    (after (State.reset.assertReset .configError true)).diag.map (·.code) = [11] := ⟨rfl, by decide, rfl, by decide⟩

/-- The two-frame state of the first clause: a write and a read of VAR[255]. -/
theorem witness_WriteIsSeenByTheNextFrame :
    (serving [arrival [0x3F, 4, 255, 9], arrival [0x3F, 6, 255]]).phase = .idle ∧
    (serving [arrival [0x3F, 4, 255, 9], arrival [0x3F, 6, 255]]).rx =
      [{ event := .rxFrame (frame [0x3F, 4, 255, 9]), answer := .ok },
        { event := .rxFrame (frame [0x3F, 6, 255]), answer := .ok }] ∧
    (frame [0x3F, 4, 255, 9]).fd = true ∧ (frame [0x3F, 4, 255, 9]).ext = false ∧
    (frame [0x3F, 6, 255]).fd = true ∧ (frame [0x3F, 6, 255]).ext = false ∧
    decodeFrame (serving []).params (frame [0x3F, 4, 255, 9]).data = .ok (.setVariableReq 255 9) ∧
    decodeFrame (serving []).params (frame [0x3F, 6, 255]).data = .ok (.getVariableReq 255) :=
  ⟨rfl, rfl, rfl, rfl, rfl, rfl, by decide, by decide⟩

/-- The two-frame states of the second clause: a lock, then an unlock of a locked parameter, each before a write. -/
theorem witness_WriteIsSeenByTheNextFrame_lock :
    (serving [arrival [0x3F, 20, 0, 1], arrival [0x3F, 18, 0, 9]]).phase = .idle ∧
    (serving [arrival [0x3F, 20, 0, 1], arrival [0x3F, 18, 0, 9]]).rx =
      [{ event := .rxFrame (frame [0x3F, 20, 0, 1]), answer := .ok },
        { event := .rxFrame (frame [0x3F, 18, 0, 9]), answer := .ok }] ∧
    (frame [0x3F, 20, 0, 1]).fd = true ∧ (frame [0x3F, 20, 0, 1]).ext = false ∧
    (frame [0x3F, 18, 0, 9]).fd = true ∧ (frame [0x3F, 18, 0, 9]).ext = false ∧
    decodeFrame (serving []).params (frame [0x3F, 20, 0, 1]).data = .ok (.parameterSetLockReq 0 true) ∧
    decodeFrame (serving []).params (frame [0x3F, 18, 0, 9]).data = .ok (.parameterSetReq 0 9) ∧
    (serving []).regs.par[(0 : Byte).toNat]? = some { value := 10, locked := false, dtype := .uint32 } ∧
    (serving [arrival [0x3F, 20, 1, 0], arrival [0x3F, 18, 1, 9]]).phase = .idle ∧
    (serving [arrival [0x3F, 20, 1, 0], arrival [0x3F, 18, 1, 9]]).rx =
      [{ event := .rxFrame (frame [0x3F, 20, 1, 0]), answer := .ok },
        { event := .rxFrame (frame [0x3F, 18, 1, 9]), answer := .ok }] ∧
    (frame [0x3F, 20, 1, 0]).fd = true ∧ (frame [0x3F, 20, 1, 0]).ext = false ∧
    (frame [0x3F, 18, 1, 9]).fd = true ∧ (frame [0x3F, 18, 1, 9]).ext = false ∧
    decodeFrame (serving []).params (frame [0x3F, 20, 1, 0]).data = .ok (.parameterSetLockReq 1 false) ∧
    decodeFrame (serving []).params (frame [0x3F, 18, 1, 9]).data = .ok (.parameterSetReq 1 9) ∧
    (serving []).regs.par[(1 : Byte).toNat]? = some { value := 7, locked := true, dtype := .uint8 } :=
  ⟨rfl, rfl, rfl, rfl, rfl, rfl, by decide, by decide, rfl, rfl, rfl, rfl, rfl, rfl, rfl, by decide, by decide, rfl⟩

theorem witness_CommandsAreIdempotent :
    exec (.parameterSetReq 0 9) (serving []) =
      .next (respond (.parameterSetConf 0 0 9) (parSetValue 0 9 (serving []))) ∧
    (∃ r, (respond (.parameterSetConf 0 0 9) (parSetValue 0 9 (serving []))).tx = (serving []).tx ++ [r]) ∧
    exec (.heartbeatReq 5) (serving []) = .next (respond (.heartbeatRes 6) (serving [])) := ⟨rfl, ⟨_, rfl⟩, rfl⟩

/-- FLASHSTATUS and VAR[7] absent in one and zero in the other, NODE_ID and a telemetry value different. -/
theorem witness_AlikeStatesStayAlike :
    ∃ s t : State, Alike s t ∧ s ≠ t ∧ s.phase = .idle ∧ s.rx = [arrival [0x3F, 14]] ∧ step s = .next (after s) := by
  let r : Regs := { loaded with flashstatus := none }
  refine ⟨{ serving [arrival [0x3F, 14]] with regs := r },
    { serving [arrival [0x3F, 14]] with
      regs := { r with flashstatus := some 0, nodeId := 9, var := r.var.set 7 (some 0),
                       tel := [{ value := 6, dtype := .int8 }] } },
    ⟨rfl, fun id => ?_, rfl, rfl, rfl, rfl, rfl, rfl, rfl, rfl⟩, ?_, rfl, rfl, rfl⟩
  · rw [Vector.getElem_set]
    split
    · next h =>
      have : id.toNat = 7 := h.symm
      simp only [this]
      rfl
    · rfl
  · intro h
    have : (9 : BitVec 6) = 0 := congrArg (fun s : State => s.regs.nodeId) h.symm
    exact absurd this (by decide)

/-- A serving state with the invariant that makes a step. -/
theorem witness_StepKeepsInv :
    Inv (serving [arrival [0x3F, 2]]) ∧ step (serving [arrival [0x3F, 2]]) = .next (after (serving [arrival [0x3F, 2]])) :=
  ⟨⟨fun _ => by decide, fun _ => by decide, fun _ h => absurd h List.not_mem_nil, fun _ h => absurd h List.not_mem_nil⟩,
    rfl⟩

/-- The largest record, at the end of a run. -/
theorem witness_SuccessfulResetLoadsEveryRegister_NothingSurvivesReset :
    ((serving []).assertReset (.record largestCfg) true).phase = .reset ∧ (serving []).params.wf = true ∧
    ((serving []).assertReset (.record largestCfg) true).cfg = .record largestCfg ∧ largestCfg.wf = true ∧
    ((serving []).assertReset (.record largestCfg) true).transportOpens = true ∧
    (serving []).params = State.reset.params := ⟨rfl, by decide, rfl, by decide +kernel, rfl, rfl⟩

/-- Each of the failures: a bad row, a ConfigError, parameters of another size, a record out of bounds, a transport that
does not open. -/
theorem witness_StartupFailuresInOrder :
    (State.reset.assertReset .configError true).phase = .reset ∧ wireCheck padK2 = some .setVariableReq ∧
    wireCheck State.reset.params = none ∧ (State.reset.assertReset .configError true).cfg = .configError ∧
    (wireCheck wide = none ∧ wide.wf = false) ∧
    ((State.reset.assertReset (.record longName) true).cfg = .record longName ∧ longName.wf = false) ∧
    ((State.reset.assertReset (.record largestCfg) false).transportOpens = false ∧ largestCfg.wf = true ∧
      State.reset.params.wf = true) :=
  ⟨rfl, by decide, by decide, rfl, ⟨by decide, by decide⟩, ⟨rfl, by decide⟩, ⟨rfl, by decide +kernel, by decide⟩⟩

/-- The premises of the twenty-four decoding clauses, under two buffer types. -/
theorem witness_FrameCarries (v : Variant) :
    Params.default.wf = true ∧ FrameCarries .default v (pad64 [0x3F, Params.default.tag v]) ∧
    FrameCarries .default v (pad64 [0xFF, Params.default.tag v, 0xEE]) := by
  cases v <;> exact ⟨by decide, ⟨rfl, by decide, rfl⟩, ⟨rfl, by decide, rfl⟩⟩

/-- Present and absent registers. -/
theorem witness_GetVariable_Data_NodeInfo_FlashClear :
    (serving []).regs.var[(3 : Byte).toNat]'(3 : Byte).isLt = some 42 ∧
    (serving []).regs.var[(255 : Byte).toNat]'(255 : Byte).isLt = none ∧
    (serving []).regs.reqdata = none ∧
    (rfSet .reqdata (Vector.replicate 60 1) (serving [])).regs.reqdata = some (Vector.replicate 60 1) ∧
    (serving []).regs.nodeinfo = none ∧
    (rfSet .nodeinfo (Vector.replicate 40 1) (serving [])).regs.nodeinfo = some (Vector.replicate 40 1) ∧
    State.reset.regs.flashstatus = none ∧ (serving []).regs.flashstatus = some 1 :=
  ⟨rfl, rfl, rfl, rfl, rfl, rfl, rfl, rfl⟩

/-- An unlocked, a locked, the first unknown and the last unknown parameter. -/
theorem witness_ParameterSetInOrder_ParameterLockIsUnconditional :
    (serving []).regs.par[(0 : Byte).toNat]? = some { value := 10, locked := false, dtype := .uint32 } ∧
    (serving []).regs.par[(1 : Byte).toNat]? = some { value := 7, locked := true, dtype := .uint8 } ∧
    (serving []).regs.par.length ≤ (2 : Byte).toNat ∧ (serving []).regs.par.length ≤ (255 : Byte).toNat :=
  ⟨rfl, rfl, by decide, by decide⟩

/-- Tables of 255 entries. -/
theorem witness_NodeInfoExtReportsCountsAndIdentity :
    ({ serving [] with regs := loadRegs largestCfg } : State).regs.tel.length ≤ 255 ∧
    ({ serving [] with regs := loadRegs largestCfg } : State).regs.par.length ≤ 255 := by decide +kernel

theorem witness_ResponseCommandsAreIgnored :
    (Instr.flashStatusRes 1).variant.isResponse = true ∧ (serving [arrival [0x3F, 15, 1]]).phase = .idle ∧
    Receives (serving [arrival [0x3F, 15, 1]]) (frame [0x3F, 15, 1]) (.flashStatusRes 1) :=
  ⟨rfl, rfl, .ok, [], rfl, rfl, rfl, by decide⟩

theorem witness_StateOperatorLaws :
    FlatReg.var 4 ≠ FlatReg.var 3 ∧ rfGet (.var 3) (serving []) = some (42 : Word) ∧
    rfGet (.var 7) (serving []) = none ∧ rfGet .flashstatus (serving []) = some (1 : Byte) ∧
    rfGet .flashstatus State.reset = none ∧ rfGet .reqdata (serving []) = none ∧ rfGet .nodeinfo (serving []) = none ∧
    rfGet .reqdata (rfSet .reqdata (Vector.replicate 60 1) (serving [])) = some (Vector.replicate 60 (1 : Byte)) ∧
    rfGet .nodeinfo (rfSet .nodeinfo (Vector.replicate 40 1) (serving [])) = some (Vector.replicate 40 (1 : Byte)) ∧
    parLookup 1 (serving []) = some { value := 7, locked := true, dtype := .uint8 } ∧ (serving []).phase = .idle ∧
    step (serving [arrival [0x3F, 2]]) = .next (after (serving [arrival [0x3F, 2]])) :=
  ⟨by decide, rfl, rfl, rfl, rfl, rfl, rfl, rfl, rfl, rfl, rfl, rfl⟩

end Sys2Proof.Tests
end

/-! ### Repeated commands (spec/20_memory.md R37) -/

namespace Sys2Proof.Machine

/-! #### What a second write of the same value leaves -/

/-- Writing a variable again with the value it holds changes nothing (R114, R136). -/
theorem rfSet_var_of_holds {id : Byte} {v : Word} {s : State}
    (h : s.regs.var[id.toNat]'id.isLt = some v) : rfSet (.var id) v s = s := by
  simp only [rfSet, ← h, Vector.set_getElem_self]

theorem list_set_of_getElem?_eq_some {α : Type} {l : List α} {n : Nat} {a : α} (h : l[n]? = some a) :
    l.set n a = l := by
  obtain ⟨hlt, rfl⟩ := List.getElem?_eq_some_iff.mp h
  exact List.set_getElem_self hlt

/-- Writing a parameter again with the value it holds changes nothing (R142). -/
theorem parSetValue_of_holds {id : Byte} {s : State} {e : ParEntry} (h : s.regs.par[id.toNat]? = some e) :
    parSetValue id e.value s = s := by
  calc parSetValue id e.value s
      = { s with regs := { s.regs with par := s.regs.par.set id.toNat e } } := parSetValue_eq _ h
    _ = s := by rw [list_set_of_getElem?_eq_some h]

/-- Writing a lock again with the flag it holds changes nothing (R143). -/
theorem parSetLock_of_holds {id : Byte} {s : State} {e : ParEntry} (h : s.regs.par[id.toNat]? = some e) :
    parSetLock id e.locked s = s := by
  calc parSetLock id e.locked s
      = { s with regs := { s.regs with par := s.regs.par.set id.toNat e } } := parSetLock_eq _ h
    _ = s := by rw [list_set_of_getElem?_eq_some h]

/-- The entry that a parameter write leaves (R142). -/
theorem parSetValue_par_getElem? {id : Byte} {s : State} {e : ParEntry} (v : Word)
    (h : s.regs.par[id.toNat]? = some e) :
    (parSetValue id v s).regs.par[id.toNat]? = some { e with value := v } := by
  simp [h]

/-- The entry that a lock write leaves (R143). -/
theorem parSetLock_par_getElem? {id : Byte} {s : State} {e : ParEntry} (b : Bool)
    (h : s.regs.par[id.toNat]? = some e) :
    (parSetLock id b s).regs.par[id.toNat]? = some { e with locked := b } := by
  simp [h]

/-! #### The branches of the parameter commands -/

/-- PARAMETER_SET_REQ with an unknown id (R128). -/
theorem exec_parameterSetReq_unknown {id : Byte} {s : State} (v : Word) (h : parExists id s = false) :
    exec (.parameterSetReq id v) s = .next (respond (.parameterSetConf id statusInvalidParameterID 0) s) := by
  simp [exec, execParameterSetReq, h]

/-- PARAMETER_SET_REQ on a locked entry (R128). -/
theorem exec_parameterSetReq_locked {id : Byte} {s : State} {e : ParEntry} (v : Word)
    (he : s.regs.par[id.toNat]? = some e) (hl : e.locked = true) :
    exec (.parameterSetReq id v) s = .next (respond (.parameterSetConf id statusParameterLocked 0) s) := by
  simp [exec, execParameterSetReq, parExists_iff.mpr ⟨e, he⟩, parLocked_eq he, hl]

/-- PARAMETER_SET_REQ on an unlocked entry (R128). -/
theorem exec_parameterSetReq_unlocked {id : Byte} {s : State} {e : ParEntry} (v : Word)
    (he : s.regs.par[id.toNat]? = some e) (hl : e.locked = false) :
    exec (.parameterSetReq id v) s =
      .next (respond (.parameterSetConf id statusSuccess v) (parSetValue id v s)) := by
  simp [exec, execParameterSetReq, parExists_iff.mpr ⟨e, he⟩, parLocked_eq he, hl]

/-- PARAMETER_SET_LOCK_REQ with an unknown id (R130). -/
theorem exec_parameterSetLockReq_unknown {id : Byte} {s : State} (b : Bool) (h : parExists id s = false) :
    exec (.parameterSetLockReq id b) s =
      .next (respond (.parameterSetLockConf id statusInvalidParameterID false) s) := by
  simp [exec, execParameterSetLockReq, h]

/-- PARAMETER_SET_LOCK_REQ on an entry, locked or not (R130). -/
theorem exec_parameterSetLockReq_known {id : Byte} {s : State} {e : ParEntry} (b : Bool)
    (he : s.regs.par[id.toNat]? = some e) :
    exec (.parameterSetLockReq id b) s =
      .next (respond (.parameterSetLockConf id statusSuccess b) (parSetLock id b s)) := by
  simp [exec, execParameterSetLockReq, parExists_iff.mpr ⟨e, he⟩]

/-- PAR.EXISTS reads the register file only (R141). -/
theorem parExists_congr (id : Byte) {s u : State} (h : u.regs = s.regs) : parExists id u = parExists id s := by
  simp only [parExists, h]

/-! #### The second run of a request -/

/-- Run in any state with the register file its handler left, a request gives the same response and writes nothing:
a response is computed from the register file and the command, and the one write a handler makes is already there. -/
theorem exec_request_settles (i : Instr) (s : State) (hreq : i.variant.isResponse = false) :
    ∃ resp s', Handled s i s' ∧ exec i s = .next (respond resp s') ∧
      ∀ u : State, u.regs = s'.regs → exec i u = .next (respond resp u) := by
  cases i with
  | setVariableReq id v =>
    refine ⟨.setVariableRes id v, _, .setVar id v rfl, rfl, fun u hu => ?_⟩
    have hheld : u.regs.var[id.toNat]'id.isLt = some v := by simp [hu]
    change Host.Outcome.next (respond _ (rfSet (.var id) v u)) = _
    rw [rfSet_var_of_holds hheld]
  | parameterSetReq id v =>
    cases hex : parExists id s with
    | false =>
      exact ⟨_, s, .same, exec_parameterSetReq_unknown v hex, fun u hu =>
        exec_parameterSetReq_unknown v ((parExists_congr id hu).trans hex)⟩
    | true =>
      obtain ⟨e, he⟩ := parExists_iff.mp hex
      cases hl : e.locked with
      | true =>
        exact ⟨_, s, .same, exec_parameterSetReq_locked v he hl, fun u hu =>
          exec_parameterSetReq_locked v (hu ▸ he) hl⟩
      | false =>
        refine ⟨_, _, .value id v e rfl he hl, exec_parameterSetReq_unlocked v he hl, fun u hu => ?_⟩
        have hheld : u.regs.par[id.toNat]? = some { e with value := v } := hu ▸ parSetValue_par_getElem? v he
        rw [exec_parameterSetReq_unlocked v hheld hl, parSetValue_of_holds hheld]
  | parameterSetLockReq id b =>
    cases hex : parExists id s with
    | false =>
      exact ⟨_, s, .same, exec_parameterSetLockReq_unknown b hex, fun u hu =>
        exec_parameterSetLockReq_unknown b ((parExists_congr id hu).trans hex)⟩
    | true =>
      obtain ⟨e, he⟩ := parExists_iff.mp hex
      refine ⟨_, _, .lock id b e rfl he, exec_parameterSetLockReq_known b he, fun u hu => ?_⟩
      have hheld : u.regs.par[id.toNat]? = some { e with locked := b } := hu ▸ parSetLock_par_getElem? b he
      rw [exec_parameterSetLockReq_known b hheld, parSetLock_of_holds hheld]
  | resetAllSettingsReq | statusReq | syncClockReq | heartbeatReq => exact ⟨_, s, .same, rfl, fun _ _ => rfl⟩
  | getVariableReq | dataReq | nodeInfoReq | flashClearReq | nodeInfoExtReq =>
    refine ⟨_, s, .same, rfl, fun u hu => ?_⟩
    simp only [exec, execGetVariableReq, execDataReq, execNodeInfoReq, execFlashClearReq, execNodeInfoExtReq,
      rfGetU32OrZero, rfGetReqdataOrZeros, rfGetNodeinfoOrZeros, rfGetU8OrZero, rfGet, telCount, parCount,
      deviceNameSent, hu]
  | _ => cases hreq

/-! #### The frame of a response -/

/-- What `respond` appends to TX (R98, R99, R101). -/
def responseRecord (resp : Instr) (s : State) : TxRecord where
  frame := { arbId := s.rxId ||| 1, data := responseData resp s }
  answer := s.txAnswer

theorem respond_tx (resp : Instr) (s : State) : (respond resp s).tx = s.tx ++ [responseRecord resp s] := by
  rw [respond_eq, sendFrame_tx, responseRecord]

@[simp] theorem respond_regs (resp : Instr) (s : State) : (respond resp s).regs = s.regs := by
  rw [respond_eq, sendFrame_regs]

/-- Sending a response leaves everything that its own frame is built from. -/
theorem responseRecord_respond (resp : Instr) (s : State) :
    responseRecord resp (respond resp s) = responseRecord resp s := by
  simp [responseRecord, responseData, rxChannelId, respond_eq]

/-- A handler writes the register file only, so TX is as it was when the response is sent (R26). -/
theorem Handled.tx_eq {s s' : State} {i : Instr} (h : Handled s i s') : s'.tx = s.tx := by
  rw [h.eq_regs]

/-! #### Reads and repeats -/

/-- A handler that writes belongs to one of the three write commands (R26, R37). -/
theorem Handled.regs_eq_of_not_write {s s' : State} {i : Instr} (h : Handled s i s')
    (hi : i.variant ∉ [.setVariableReq, .parameterSetReq, .parameterSetLockReq]) : s'.regs = s.regs := by
  cases h with
  | same => rfl
  | setVar id v hw => simp [hw, Instr.variant] at hi
  | value id v e hw he hl => simp [hw, Instr.variant] at hi
  | lock id b e hw he => simp [hw, Instr.variant] at hi

/-- Only the three write commands can change the register file (R26, R37). -/
theorem exec_regs_eq_of_not_write {i : Instr} {s t : State} (h : exec i s = .next t)
    (hi : i.variant ∉ [.setVariableReq, .parameterSetReq, .parameterSetLockReq]) : t.regs = s.regs := by
  obtain ⟨-, hx⟩ | ⟨-, resp, s', -, -, hh, hx⟩ := exec_cases i s
  · cases hx.symm.trans h
    exact ignoreResponse_regs _ s
  · cases hx.symm.trans h
    rw [respond_regs, hh.regs_eq_of_not_write hi]

/-- A repeated command completes, keeps the registers and repeats the frame it sent (R37). -/
theorem exec_repeat {i : Instr} {s t : State} (h : exec i s = .next t) :
    ∃ u, exec i t = .next u ∧ u.regs = t.regs ∧ ∀ r, t.tx = s.tx ++ [r] → u.tx = t.tx ++ [r] := by
  cases hv : i.variant.isResponse with
  | true =>
    have ignored (x : State) : exec i x = .next (ignoreResponse i.variant x) := by
      obtain ⟨-, hx⟩ | ⟨hn, -⟩ := exec_cases i x
      · exact hx
      · cases hv.symm.trans hn
    cases (ignored s).symm.trans h
    refine ⟨_, ignored _, rfl, fun r hr => ?_⟩
    simp at hr
  | false =>
    obtain ⟨resp, s', hh, hx, hagain⟩ := exec_request_settles i s hv
    cases hx.symm.trans h
    refine ⟨_, hagain _ (respond_regs resp s'), respond_regs resp _, fun r hr => ?_⟩
    have hrec : responseRecord resp s' = r := by
      simpa [respond_tx, hh.tx_eq] using hr
    rw [respond_tx resp (respond resp s'), responseRecord_respond, hrec]

/-- None of the reads that R37 lists, nor HEARTBEAT_REQ, is one of the three write commands. -/
theorem read_not_mem_writes :
    ∀ v ∈ [Variant.getVariableReq, .dataReq, .nodeInfoReq, .flashClearReq, .nodeInfoExtReq, .heartbeatReq],
      v ∉ [Variant.setVariableReq, .parameterSetReq, .parameterSetLockReq] := by decide

/-- Settles O24: a read changes no register since only the three writes can, and a repeat finds the register file that
the first run left. -/
theorem commandsAreIdempotent : Obligations.CommandsAreIdempotent := fun _ _ _ h =>
  ⟨fun hread => exec_regs_eq_of_not_write h (read_not_mem_writes _ hread), exec_repeat h⟩

end Sys2Proof.Machine

/-! ### The identifier codec (spec/40_identifier_codec.md R60 to R62) -/

namespace Sys2Proof

/-! #### Every code names an enumeration value (R50, R61) -/

@[simp] theorem Direction.code_ofCode : ∀ b : BitVec 1, (Direction.ofCode b).code = b := by decide

@[simp] theorem SpecialCmd.code_ofCode : ∀ b : BitVec 2, (SpecialCmd.ofCode b).code = b := by decide

@[simp] theorem Priority.code_ofCode : ∀ b : BitVec 2, (Priority.ofCode b).code = b := by decide

/-! #### Packing -/

/-- A field put in above the bits in use is added to them: no carry passes, since the field is zero-extended from
exactly its own width (R60). -/
theorem toNat_or_field {w n k a : Nat} {x : BitVec w} (field : BitVec n) (hx : x.toNat = a) (ha : a < 2 ^ k)
    (hfits : k + n ≤ w) : (x ||| field.setWidth w <<< k).toNat = a + 2 ^ k * field.toNat := by
  have hlt : field.toNat * 2 ^ k < 2 ^ w :=
    calc field.toNat * 2 ^ k < 2 ^ n * 2 ^ k := Nat.mul_lt_mul_of_pos_right field.isLt (Nat.two_pow_pos k)
      _ = 2 ^ (k + n) := by rw [← Nat.pow_add, Nat.add_comm]
      _ ≤ 2 ^ w := Nat.pow_le_pow_right Nat.two_pos hfits
  have hshift : (field.setWidth w <<< k).toNat = 2 ^ k * field.toNat := by
    rw [BitVec.toNat_shiftLeft, BitVec.toNat_setWidth_of_le (by omega), Nat.shiftLeft_eq, Nat.mod_eq_of_lt hlt,
      Nat.mul_comm]
  rw [BitVec.toNat_or, hx, hshift, Nat.or_comm, ← Nat.two_pow_add_eq_or_of_lt ha, Nat.add_comm]

/-- The packed identifier as a number (R60). -/
theorem idPack_toNat (m : MessageIdentifier) :
    (idPack m).toNat = m.direction.code.toNat + 2 * m.nodeId.toNat + 128 * m.specialCmd.code.toNat +
      512 * m.priority.code.toNat := by
  have hd := m.direction.code.isLt
  have hn := m.nodeId.isLt
  have hs := m.specialCmd.code.isLt
  have hdirection : (m.direction.code.setWidth 16).toNat = m.direction.code.toNat :=
    BitVec.toNat_setWidth_of_le (by decide)
  have hnode := toNat_or_field (k := 1) m.nodeId hdirection (by omega) (by decide)
  have hspecial := toNat_or_field (k := 7) m.specialCmd.code hnode (by omega) (by decide)
  exact toNat_or_field (k := 9) m.priority.code hspecial (by omega) (by decide)

/-- Bits 15:11 of a packed identifier are 0 (R60). -/
theorem idPack_toNat_le (m : MessageIdentifier) : (idPack m).toNat ≤ 0x7FF := by
  have hd := m.direction.code.isLt
  have hn := m.nodeId.isLt
  have hs := m.specialCmd.code.isLt
  have hp := m.priority.code.isLt
  rw [idPack_toNat]
  omega

/-! #### Unpacking -/

/-- A field within bits 10:0 does not see bits 15:11 (R61). -/
theorem extractLsb'_and_0x7FF (v : BitVec 16) {start len : Nat} (h : start + len ≤ 11) :
    (v &&& 0x7FF).extractLsb' start len = v.extractLsb' start len := by
  apply BitVec.eq_of_getLsbD_eq
  intro i hi
  have hmask : (0x7FF : BitVec 16).getLsbD (start + i) = true := by
    rw [← BitVec.testBit_toNat]
    exact (Nat.testBit_two_pow_sub_one 11 (start + i)).trans (decide_eq_true (by omega))
  rw [BitVec.getLsbD_extractLsb', BitVec.getLsbD_extractLsb', BitVec.getLsbD_and, hmask, Bool.and_true]

/-- The four fields read, as numbers (R61). -/
theorem idUnpack_toNat (v : BitVec 16) :
    (idUnpack v).direction.code.toNat = v.toNat % 2 ∧ (idUnpack v).nodeId.toNat = v.toNat / 2 % 64 ∧
    (idUnpack v).specialCmd.code.toNat = v.toNat / 128 % 4 ∧ (idUnpack v).priority.code.toNat = v.toNat / 512 % 4 := by
  simp [idUnpack, Nat.shiftRight_eq_div_pow]

/-- Bits 15:11 have no influence (R61). -/
theorem idUnpack_and_0x7FF (v : BitVec 16) : idUnpack (v &&& 0x7FF) = idUnpack v := by
  have hdirection := extractLsb'_and_0x7FF v (start := 0) (len := 1) (by decide)
  have hnode := extractLsb'_and_0x7FF v (start := 1) (len := 6) (by decide)
  have hspecial := extractLsb'_and_0x7FF v (start := 7) (len := 2) (by decide)
  have hpriority := extractLsb'_and_0x7FF v (start := 9) (len := 2) (by decide)
  simp only [idUnpack, hdirection, hnode, hspecial, hpriority]

/-- Settles O1: packing adds the fields at their places, and each field is read by a division and a remainder, all of it
below bit 11. -/
theorem identifierFieldPlaces : Obligations.IdentifierFieldPlaces := by
  refine ⟨fun m => ⟨idPack_toNat m, idPack_toNat_le m⟩, fun v => ?_⟩
  obtain ⟨hdirection, hnode, hspecial, hpriority⟩ := idUnpack_toNat v
  exact ⟨hdirection, hnode, hspecial, hpriority, (idUnpack_and_0x7FF v).symm⟩

/-! #### The 11-bit arbitration identifier -/

/-- A value reaches 2 ^ n exactly when it has a bit at place n or higher. -/
theorem two_pow_le_toNat_iff {w n : Nat} (v : BitVec w) : 2 ^ n ≤ v.toNat ↔ ∃ k, n ≤ k ∧ v.getLsbD k = true := by
  simp only [← BitVec.testBit_toNat]
  constructor
  · exact Nat.exists_ge_and_testBit_of_ge_two_pow
  · rintro ⟨k, hnk, hbit⟩
    exact (Nat.pow_le_pow_right Nat.two_pos hnk).trans (Nat.ge_two_pow_of_testBit hbit)

/-- ID.TOARB raises on the numbers from 0x800 on (R62). -/
theorem idToArb_eq_error_iff (v : BitVec 16) : idToArb v = .error (.outOfRange v) ↔ 2 ^ 11 ≤ v.toNat := by
  unfold idToArb
  split
  next habove => exact iff_of_true rfl (by omega)
  next hfits => exact iff_of_false nofun (by omega)

/-- Below 0x800 ID.TOARB answers the same number (R62). -/
theorem idToArb_of_lt {v : BitVec 16} (h : v.toNat < 2 ^ 11) : ∃ a, idToArb v = .ok a ∧ a.toNat = v.toNat := by
  refine ⟨v.extractLsb' 0 11, if_neg (by omega), ?_⟩
  rw [BitVec.extractLsb'_toNat, Nat.shiftRight_zero, Nat.mod_eq_of_lt h]

/-- Settles O2: exceeding 0x7FF is having a bit at place 11 or higher. -/
theorem toArbFailsExactlyAboveElevenBits : Obligations.ToArbFailsExactlyAboveElevenBits := by
  refine fun v => ⟨(idToArb_eq_error_iff v).trans (two_pow_le_toNat_iff v), fun hclear => idToArb_of_lt ?_⟩
  exact Nat.lt_pow_two_of_testBit _ fun k hk => (BitVec.testBit_toNat v).trans (hclear k hk)

end Sys2Proof

/-! ### The envelope codec (spec/41_envelope_codec.md R65) -/

namespace Sys2Proof

/-- A read past the end answers the same byte as the fill, so filling a list up changes none of its reads. -/
theorem getD_append_replicate {α : Type} (l : List α) (m : Nat) (d : α) (k : Nat) :
    (l ++ List.replicate m d).getD k d = l.getD k d := by
  obtain hk | hk := Nat.lt_or_ge k l.length
  · exact List.getD_append _ _ _ _ hk
  · rw [List.getD_append_right _ _ _ _ hk, List.getD_eq_default _ _ hk, List.getD_eq_getElem?_getD,
      List.getElem?_getD_replicate_default_eq]

/-- A buffer holds the bytes given, left-aligned, and zeros to its end (R30, R65). -/
theorem frameBuffer_toList_of_le {bytes : List Byte} (h : bytes.length ≤ 64) :
    (frameBuffer bytes).toList = bytes ++ List.replicate (64 - bytes.length) 0 := by
  have hfill : frameBuffer (bytes ++ List.replicate (64 - bytes.length) 0) = frameBuffer bytes := by
    simp only [frameBuffer, getD_append_replicate]
  rw [← hfill]
  exact Machine.frameBuffer_toList (by rw [List.length_append, List.length_replicate]; omega)

/-- ENV.PACK fills a buffer with byte 0, the command_id and the payload (R65). -/
theorem envPack_eq_frameBuffer (c : BitVec 6) (b : BufferType) (t : Byte) (payload : List Byte) :
    envPack c b t payload = frameBuffer (envByte0 c b :: t :: payload) := rfl

/-- Settles O4: a buffer filled with the two header bytes and the payload, byte 0 read as a number. -/
theorem envPackBytes : Obligations.EnvPackBytes := by
  intro c b t payload hlen
  have hfits : (envByte0 c b :: t :: payload).length ≤ 64 := Nat.add_le_add_right hlen 2
  rw [envPack_eq_frameBuffer, frameBuffer_toList_of_le hfits, Machine.envByte0_eq_ofNat]
  simp only [List.length_cons, Nat.reduceSubDiff, List.cons_append]

end Sys2Proof

/-! ### Reset (spec/70_reset_and_hazards.md R170, R172) -/

namespace Sys2Proof

/-- Well-formed parameters pass the size check (R71). -/
theorem wireCheck_eq_none_of_wf {p : Params} (h : p.wf = true) : wireCheck p = none := by
  rw [Params.wf, Bool.and_eq_true] at h
  exact eq_of_beq h.2

end Sys2Proof

namespace Sys2Proof.Machine

/-- With none of the three failures the reset sequence loads the record and waits for the first event (R170, R173). -/
theorem resetSequence_of_success {s : State} {c : CfgRecord} (hp : s.params.wf = true) (hcfg : s.cfg = .record c)
    (hc : c.wf = true) (hopen : s.transportOpens = true) :
    resetSequence s = { s with phase := .idle, regs := loadRegs c, frameIndex := 0 } := by
  simp [resetSequence, wireCheck_eq_none_of_wf hp, hcfg, hp, hc, hopen]

/-- After a successful reset the register file is a function of the record alone (R172). -/
theorem step_assertReset_record (s : State) {c : CfgRecord} (hp : s.params.wf = true) (hc : c.wf = true) :
    ∃ t, step (s.assertReset (.record c) true) = .next t ∧ t.phase = .idle ∧ t.regs = loadRegs c := by
  refine ⟨resetSequence (s.assertReset (.record c) true), rfl, ?_⟩
  rw [resetSequence_of_success (s := s.assertReset (.record c) true) hp rfl hc rfl]
  exact ⟨rfl, rfl⟩

/-- Settles O30: each machine is left with the registers of the record, whose variables, values and locks `loadRegs`
takes over as they are. -/
theorem nothingSurvivesReset : Obligations.NothingSurvivesReset := by
  intro s s' c hparams hp hc
  obtain ⟨t, hstep, hidle, hregs⟩ := step_assertReset_record s hp hc
  obtain ⟨t', hstep', hidle', hregs'⟩ := step_assertReset_record s' (hparams ▸ hp) hc
  have hvar : t.regs.var = c.var := congrArg Regs.var hregs
  have hpar : t.regs.par = c.par := congrArg Regs.par hregs
  exact ⟨t, t', hstep, hstep', hidle, hidle', hregs.trans hregs'.symm, hvar, hpar⟩

end Sys2Proof.Machine

/-! ### The size check and the tag table (spec/42_wire_codec.md R71, R72) -/

namespace Sys2Proof

/-- No row repeats the tag of an earlier one exactly when the tags of the rows are distinct (R71). -/
theorem firstDuplicateTag_eq_none_iff (p : Params) (rows : List Variant) :
    firstDuplicateTag p rows = none ↔ (rows.map p.tag).Nodup := by
  induction rows with
  | nil => simp [firstDuplicateTag]
  | cons v vs ih =>
    rw [firstDuplicateTag, List.map_cons, List.nodup_cons, ← ih]
    cases hfind : vs.find? fun v' => p.tag v' == p.tag v with
    | none =>
      have hfresh : p.tag v ∉ vs.map p.tag := by simpa using hfind
      simp only [hfresh, not_false_eq_true, true_and]
    | some v' =>
      have htag : p.tag v' = p.tag v := by simpa using List.find?_some hfind
      have hseen : p.tag v ∈ vs.map p.tag := List.mem_map.mpr ⟨v', List.mem_of_find?_eq_some hfind, htag⟩
      simp [hseen]

/-- Over the whole table, distinct tags are an injective tag function. -/
theorem nodup_tags_iff (p : Params) :
    (Variant.all.map p.tag).Nodup ↔ ∀ v v' : Variant, p.tag v = p.tag v' → v = v' := by
  constructor
  · intro h v v'
    exact List.inj_on_of_nodup_map h (mem_variant_all v) (mem_variant_all v')
  · intro hinj
    have hrows : Variant.all.Nodup := by decide
    exact hrows.map hinj

/-- WIRE.CHECK passes exactly when every row fills WIRE_SIZE and no two rows share a tag (R71). -/
theorem wireCheck_eq_none_iff (p : Params) :
    wireCheck p = none ↔ (∀ v : Variant, 1 + v.payloadSize + p.pad v = p.wireSize) ∧
      ∀ v v' : Variant, p.tag v = p.tag v' → v = v' := by
  rw [← nodup_tags_iff, ← firstDuplicateTag_eq_none_iff, wireCheck]
  cases hfind : Variant.all.find? fun v => 1 + v.payloadSize + p.pad v != p.wireSize with
  | none =>
    have hrows : ∀ v : Variant, 1 + v.payloadSize + p.pad v = p.wireSize := fun v => by
      simpa using List.find?_eq_none.mp hfind v (mem_variant_all v)
    simp only [hrows, implies_true, true_and]
  | some v =>
    have hv : 1 + v.payloadSize + p.pad v ≠ p.wireSize := by simpa using List.find?_some hfind
    exact iff_of_false nofun fun ⟨hrows, _⟩ => hv (hrows v)

/-- Settles O9: the two searches of WIRE.CHECK find nothing exactly when every row fits and the tags are distinct. -/
theorem sizeCheckExact : Obligations.SizeCheckExact :=
  ⟨wireCheck_eq_none_iff, by decide⟩

theorem wireSize_of_wf {p : Params} (h : p.wf = true) : p.wireSize = 63 := by
  rw [Params.wf, Bool.and_eq_true] at h
  exact eq_of_beq h.1

theorem tag_injective_of_wf {p : Params} (h : p.wf = true) {v v' : Variant} (ht : p.tag v = p.tag v') : v = v' :=
  ((wireCheck_eq_none_iff p).mp (wireCheck_eq_none_of_wf h)).2 v v' ht

/-- A tag is looked up to its own row (R72). -/
theorem variantOfTag_tag {p : Params} (h : p.wf = true) (v : Variant) : variantOfTag p (p.tag v) = some v := by
  cases hv : variantOfTag p (p.tag v) with
  | none => exact absurd rfl (variantOfTag_eq_none.mp hv v)
  | some v' => rw [tag_injective_of_wf h (variantOfTag_eq_some_tag hv)]

/-! ### WIRE.DEC (R74) -/

theorem decodeFields_variant (v : Variant) (b : List Byte) : (decodeFields v b).variant = v := by
  cases v <;> rfl

/-- Once the tag is known, only the number of bytes after it decides (R74). -/
theorem wireDec_cons_of_some {p : Params} {t : Byte} {v : Variant} (hv : variantOfTag p t = some v) (body : List Byte) :
    wireDec p (t :: body) =
      if body.length < v.payloadSize then .error (.shortPayload (some t) body.length v.payloadSize)
      else .ok (decodeFields v body) := by
  simp only [wireDec, hv]

theorem wireDec_cons_of_none {p : Params} {t : Byte} (h : variantOfTag p t = none) (body : List Byte) :
    wireDec p (t :: body) = .error (.unknownTag t) := by
  simp only [wireDec, h]

/-- A WireCommand of a known tag with enough bytes decodes to its fields (R74). -/
theorem wireDec_tag {p : Params} (h : p.wf = true) {v : Variant} {body : List Byte} (hlen : v.payloadSize ≤ body.length) :
    wireDec p (p.tag v :: body) = .ok (decodeFields v body) := by
  rw [wireDec_cons_of_some (variantOfTag_tag h v), if_neg hlen.not_gt]

/-- What WIRE.DEC answers comes from a row of the table whose tag is the first byte (R74). -/
theorem wireDec_eq_ok {p : Params} {w : List Byte} {i : Instr} (h : wireDec p w = .ok i) :
    ∃ body, w = p.tag i.variant :: body ∧ i.variant.payloadSize ≤ body.length ∧ i = decodeFields i.variant body := by
  cases w with
  | nil => cases h
  | cons t body =>
    cases hv : variantOfTag p t with
    | none =>
      rw [wireDec_cons_of_none hv] at h
      cases h
    | some v =>
      rw [wireDec_cons_of_some hv] at h
      split at h
      next => cases h
      next hlen =>
        cases h
        rw [decodeFields_variant]
        exact ⟨body, by rw [variantOfTag_eq_some_tag hv], Nat.not_lt.mp hlen, rfl⟩

/-- Settles O8: WIRE.DEC looks at the first byte, then at the row, then at the number of bytes. -/
theorem wireDecodeFailures : Obligations.WireDecodeFailures := by
  intro p
  refine ⟨rfl, fun t body hunknown => wireDec_cons_of_none (variantOfTag_eq_none.mpr hunknown) body, ?_⟩
  intro hwf v body
  constructor
  · intro hshort
    rw [wireDec_cons_of_some (variantOfTag_tag hwf v), if_pos hshort]
  · intro hlen
    exact ⟨_, wireDec_tag hwf hlen, decodeFields_variant v body⟩

/-! ### What the fields of a body are, and that encoding writes them back (R53, R73, R74) -/

/-- A byte array is read as the bytes at its place (R33). -/
theorem bytesAt_toList {n : Nat} {b : List Byte} {p : Nat} (h : p + n ≤ b.length) :
    (bytesAt n b p).toList = (b.drop p).take n := by
  apply List.ext_getElem
  · simp; omega
  · intro k hk hk'
    have hlt : p + k < b.length := by simp at hk; omega
    simp [bytesAt, List.getElem?_eq_getElem hlt]

/-- A byte array longer than its source is filled with zeros (R27, R65). -/
theorem bytesAt_zero_toList_of_le {n : Nat} {b : List Byte} (h : b.length ≤ n) :
    (bytesAt n b 0).toList = b ++ List.replicate (n - b.length) 0 := by
  have hfill : bytesAt n (b ++ List.replicate (n - b.length) 0) 0 = bytesAt n b 0 := by
    simp only [bytesAt, getD_append_replicate]
  rw [← hfill, bytesAt_toList (by simp; omega), List.drop_zero, List.take_of_length_le (by simp; omega)]

theorem fromLe_lt (l : List Byte) : fromLe l < 256 ^ l.length := by
  induction l with
  | nil => simp [fromLe]
  | cons b bs ih =>
    have hb := b.isLt
    rw [fromLe, List.length_cons, Nat.pow_succ']
    omega

/-- Writing out the number that bytes stand for gives the bytes back. -/
theorem leBytes_fromLe (l : List Byte) : leBytes l.length (fromLe l) = l := by
  induction l with
  | nil => rfl
  | cons b bs ih =>
    have hb := b.isLt
    have hlow : BitVec.ofNat 8 (b.toNat + 256 * fromLe bs) = b := by
      apply BitVec.eq_of_toNat_eq
      rw [BitVec.toNat_ofNat]
      omega
    have hhigh : (b.toNat + 256 * fromLe bs) / 256 = fromLe bs := by omega
    rw [List.length_cons, fromLe, leBytes, hlow, hhigh, ih]

/-- A u32 field is written back as the four bytes it was read from (R32). -/
theorem le32_u32At {b : List Byte} {p : Nat} (h : p + 4 ≤ b.length) : le32 (u32At b p) = (b.drop p).take 4 := by
  have hlen : ((b.drop p).take 4).length = 4 := by simp; omega
  have hlt := fromLe_lt ((b.drop p).take 4)
  rw [hlen, show 256 ^ 4 = 2 ^ 32 from rfl] at hlt
  rw [le32, u32At, BitVec.toNat_ofNat, Nat.mod_eq_of_lt hlt]
  calc leBytes 4 (fromLe ((b.drop p).take 4))
      = leBytes ((b.drop p).take 4).length (fromLe ((b.drop p).take 4)) := by rw [hlen]
    _ = (b.drop p).take 4 := leBytes_fromLe _

/-- A u8 field is written back as the byte it was read from, before whatever follows it. -/
theorem u8At_cons_take_drop {b : List Byte} {p n : Nat} (h : p < b.length) :
    u8At b p :: (b.drop (p + 1)).take n = (b.drop p).take (n + 1) := by
  rw [u8At, List.getD_eq_getElem _ _ h, List.drop_eq_getElem_cons h, List.take_succ_cons]

/-- Two fields side by side are one run of bytes. -/
theorem take_drop_append {α : Type} (b : List α) (p n m : Nat) :
    (b.drop p).take n ++ (b.drop (p + n)).take m = (b.drop p).take (n + m) := by
  rw [List.take_add, List.drop_drop]

/-- Reading the fields of a layout without a bool and writing them again gives the bytes read (R76). -/
theorem encodeFields_decodeFields {v : Variant} {b : List Byte} (hbool : Machine.boolOffset v = none)
    (hlen : v.payloadSize ≤ b.length) : encodeFields (decodeFields v b) = b.take v.payloadSize := by
  have byte {p n : Nat} := u8At_cons_take_drop (b := b) (p := p) (n := n)
  have word {p : Nat} := le32_u32At (b := b) (p := p)
  have array {n p : Nat} := bytesAt_toList (b := b) (n := n) (p := p)
  cases v with
  | setVariableReq | setVariableRes | getVariableRes | parameterSetReq =>
    change 5 ≤ b.length at hlen
    change u8At b 0 :: le32 (u32At b 1) = b.take 5
    rw [word (by omega), byte (by omega), List.drop_zero]
  | getVariableReq | flashStatusRes =>
    change 1 ≤ b.length at hlen
    exact byte (n := 0) (by omega)
  | heartbeatReq | heartbeatRes => exact word hlen
  | dataRes =>
    change 60 ≤ b.length at hlen
    change le32 (u32At b 0) ++ (bytesAt 56 b 4).toList = b.take 60
    rw [word (by omega), array (by omega), take_drop_append b 0, List.drop_zero]
  | nodeInfoRes =>
    change 40 ≤ b.length at hlen
    change le32 (u32At b 0) ++ le32 (u32At b 4) ++ (bytesAt 32 b 8).toList = b.take 40
    rw [word (by omega), word (by omega), array (by omega), take_drop_append b 0, take_drop_append b 0, List.drop_zero]
  | parameterSetConf =>
    change 6 ≤ b.length at hlen
    change u8At b 0 :: u8At b 1 :: le32 (u32At b 2) = b.take 6
    rw [word (by omega), byte (by omega), byte (by omega), List.drop_zero]
  | nodeInfoExtRes =>
    change 62 ≤ b.length at hlen
    change u8At b 0 :: u8At b 1 :: (le32 (u32At b 2) ++ le32 (u32At b 6) ++ (bytesAt 52 b 10).toList) = b.take 62
    rw [word (by omega), word (by omega), array (by omega), take_drop_append b 2, take_drop_append b 2, byte (by omega),
      byte (by omega), List.drop_zero]
  | parameterSetLockReq | parameterSetLockConf => cases hbool
  | _ => rfl

end Sys2Proof

/-! ### The wire codec (spec/42_wire_codec.md R73, R76) -/

namespace Sys2Proof

open Machine (canonicalByte boolOffset)

theorem boolByte_ne_zero_eq (b : Byte) : boolByte (b != 0) = if b ≠ 0 then 1 else b := by
  cases hb : b != 0 <;> simp_all [boolByte]

/-- Each byte of the fields read and written again: a bool byte is normalised, every other byte stays (R76). -/
theorem encodeFields_decodeFields_getD {v : Variant} {b : List Byte} {k : Nat} (hlen : v.payloadSize ≤ b.length)
    (hk : k < v.payloadSize) :
    (encodeFields (decodeFields v b)).getD k 0 =
      if boolOffset v = some (k + 1) ∧ b.getD k 0 ≠ 0 then 1 else b.getD k 0 := by
  cases hbool : boolOffset v with
  | none =>
    rw [encodeFields_decodeFields hbool hlen, if_neg (fun h => nomatch h.1), List.getD_eq_getElem?_getD,
      List.getElem?_take_of_lt hk, ← List.getD_eq_getElem?_getD]
  | some place =>
    cases v with
    | parameterSetLockReq =>
      cases hbool
      change ([b.getD 0 0, boolByte (b.getD 1 0 != 0)] : List Byte).getD k 0 = _
      change k < 2 at hk
      rw [boolByte_ne_zero_eq]
      interval_cases k <;> simp
    | parameterSetLockConf =>
      cases hbool
      change ([b.getD 0 0, b.getD 1 0, boolByte (b.getD 2 0 != 0)] : List Byte).getD k 0 = _
      change k < 3 at hk
      rw [boolByte_ne_zero_eq]
      interval_cases k <;> simp
    | _ => cases hbool

theorem wireEnc_eq (p : Params) (i : Instr) :
    wireEnc p i =
      p.tag i.variant :: (encodeFields i ++ List.replicate (p.wireSize - (1 + (encodeFields i).length)) 0) := rfl

/-- A WireCommand fills its slot (R73, R76). -/
theorem wireEnc_length {p : Params} (h : p.wf = true) (i : Instr) : (wireEnc p i).length = 63 := by
  have hfits := payloadSize_le i.variant
  rw [wireEnc_eq, wireSize_of_wf h, List.length_cons, List.length_append, List.length_replicate, encodeFields_length]
  omega

/-- Decoding reads the command that was encoded (R76). -/
theorem wireDec_wireEnc {p : Params} (h : p.wf = true) (i : Instr) : wireDec p (wireEnc p i) = .ok i := by
  rw [wireEnc_eq, wireDec_tag h (by simp), decodeFields_encodeFields]

theorem wireEnc_injective {p : Params} (h : p.wf = true) {i j : Instr} (hij : wireEnc p i = wireEnc p j) : i = j := by
  have hdec : wireDec p (wireEnc p i) = wireDec p (wireEnc p j) := congrArg _ hij
  rw [wireDec_wireEnc h, wireDec_wireEnc h] at hdec
  exact Except.ok.inj hdec

theorem boolOffset_ne_zero (v : Variant) : boolOffset v ≠ some 0 := by cases v <;> decide

/-- Encoding what was decoded gives the bytes in canonical form (R76). -/
theorem wireEnc_getD_of_wireDec {p : Params} {w : List Byte} {i : Instr} (hdec : wireDec p w = .ok i) (k : Nat) :
    (wireEnc p i).getD k 0 = canonicalByte i.variant w k := by
  obtain ⟨body, rfl, hlen, hi⟩ := wireDec_eq_ok hdec
  cases k with
  | zero =>
    rw [canonicalByte, if_neg (by omega), if_neg (fun h => boolOffset_ne_zero _ h.1)]
    rfl
  | succ k =>
    rw [wireEnc_eq, List.getD_cons_succ, getD_append_replicate, canonicalByte, List.getD_cons_succ]
    by_cases hk : k < i.variant.payloadSize
    · rw [if_neg (by omega), ← encodeFields_decodeFields_getD hlen hk, ← hi]
    · rw [if_pos (by omega), List.getD_eq_default _ _ (by rw [encodeFields_length]; omega)]

/-- Settles O7: the round trip reads the tag's own row, and the other direction changes only what decoding does not
keep. -/
theorem wireCodecLaws : Obligations.WireCodecLaws := fun _ hwf =>
  ⟨wireDec_wireEnc hwf, fun _ _ _ hdec k _ => wireEnc_getD_of_wireDec hdec k, fun _ _ => wireEnc_injective hwf,
    fun i => ⟨rfl, wireEnc_length hwf i⟩⟩

end Sys2Proof

/-! ### The envelope codec, unpacking (spec/41_envelope_codec.md R66, R67) -/

namespace Sys2Proof

@[simp] theorem BufferType.code_ofCode : ∀ b : BitVec 2, (BufferType.ofCode b).code = b := by decide

@[simp] theorem BufferType.ofCode_code (b : BufferType) : BufferType.ofCode b.code = b := by cases b <;> rfl

theorem BufferType.code_injective {b b' : BufferType} (h : b.code = b'.code) : b = b' := by
  rw [← BufferType.ofCode_code b, h, BufferType.ofCode_code]

theorem envByte0_toNat (c : BitVec 6) (b : BufferType) : (envByte0 c b).toNat = c.toNat + 64 * b.code.toNat := by
  have hc := c.isLt
  have hb := b.code.isLt
  rw [Machine.envByte0_eq_ofNat, BitVec.toNat_ofNat]
  omega

/-- buffer_type of byte 0 as a number (R66). -/
theorem bufferTypeOf_code_toNat (b : Byte) : (bufferTypeOf b).code.toNat = b.toNat / 64 := by
  have hb := b.isLt
  rw [bufferTypeOf, BufferType.code_ofCode, BitVec.toNat_setWidth, BitVec.toNat_ushiftRight, Nat.shiftRight_eq_div_pow]
  omega

@[simp] theorem channelOf_envByte0 (c : BitVec 6) (b : BufferType) : channelOf (envByte0 c b) = c := by
  have hc := c.isLt
  apply BitVec.eq_of_toNat_eq
  rw [Machine.channelOf_toNat, envByte0_toNat]
  omega

@[simp] theorem bufferTypeOf_envByte0 (c : BitVec 6) (b : BufferType) : bufferTypeOf (envByte0 c b) = b := by
  have hc := c.isLt
  apply BufferType.code_injective
  apply BitVec.eq_of_toNat_eq
  rw [bufferTypeOf_code_toNat, envByte0_toNat]
  omega

theorem envByte0_channelOf_bufferTypeOf (b : Byte) : envByte0 (channelOf b) (bufferTypeOf b) = b := by
  apply BitVec.eq_of_toNat_eq
  rw [envByte0_toNat, Machine.channelOf_toNat, bufferTypeOf_code_toNat]
  omega

theorem envUnpack_of_length {bytes : List Byte} (h : bytes.length = 64) :
    envUnpack bytes = .ok
      { channelId := channelOf (bytes.getD 0 0)
        bufferType := bufferTypeOf (bytes.getD 0 0)
        commandId := bytes.getD 1 0
        payload := bytesAt 62 bytes 2 } := if_pos h

theorem envUnpack_of_length_ne {bytes : List Byte} (h : bytes.length ≠ 64) :
    envUnpack bytes = .error (.length bytes.length) := if_neg h

/-- The payload is what stands after the two header bytes (R66). -/
theorem bytesAt_62_toList {bytes : List Byte} (h : bytes.length = 64) : (bytesAt 62 bytes 2).toList = bytes.drop 2 := by
  rw [bytesAt_toList (by omega), List.take_of_length_le (by rw [List.length_drop]; omega)]

/-- Settles O5: ENV.UNPACK splits the bytes at their places. -/
theorem envUnpackFields : Obligations.EnvUnpackFields := fun _ =>
  ⟨envUnpack_of_length_ne, fun h => ⟨_, envUnpack_of_length h, Machine.channelOf_toNat _, bufferTypeOf_code_toNat _, rfl,
    bytesAt_62_toList h⟩⟩

/-- The bytes of a packed envelope (R65). -/
theorem envPack_toList (c : BitVec 6) (b : BufferType) (t : Byte) {payload : List Byte} (h : payload.length ≤ 62) :
    (envPack c b t payload).toList =
      envByte0 c b :: t :: (payload ++ List.replicate (62 - payload.length) 0) := by
  rw [envPackBytes c b t payload h, Machine.envByte0_eq_ofNat]

/-- Unpacking a packed envelope gives its fields, the payload filled with zeros (R67). -/
theorem envUnpack_envPack (c : BitVec 6) (b : BufferType) (t : Byte) {payload : List Byte} (h : payload.length ≤ 62) :
    ∃ e, envUnpack (envPack c b t payload).toList = .ok e ∧ e.channelId = c ∧ e.bufferType = b ∧ e.commandId = t ∧
      e.payload.toList = payload ++ List.replicate (62 - payload.length) 0 := by
  have hlen : (envPack c b t payload).toList.length = 64 := Vector.length_toList
  have hbytes := envPack_toList c b t h
  refine ⟨_, envUnpack_of_length hlen, ?_, ?_, ?_, ?_⟩
  · rw [hbytes, List.getD_cons_zero, channelOf_envByte0]
  · rw [hbytes, List.getD_cons_zero, bufferTypeOf_envByte0]
  · simp only [hbytes, List.getD_cons_succ, List.getD_cons_zero]
  · rw [bytesAt_62_toList hlen, hbytes, List.drop_succ_cons, List.drop_succ_cons, List.drop_zero]

/-- Packing what was unpacked gives the bytes back (R67). -/
theorem envPack_of_envUnpack {bytes : List Byte} (h : bytes.length = 64) :
    (envPack (channelOf (bytes.getD 0 0)) (bufferTypeOf (bytes.getD 0 0)) (bytes.getD 1 0) (bytes.drop 2)).toList =
      bytes := by
  rw [envPack_eq_frameBuffer, envByte0_channelOf_bufferTypeOf]
  have hsplit : bytes.getD 0 0 :: bytes.getD 1 0 :: bytes.drop 2 = bytes := by
    match bytes, h with
    | _ :: _ :: _, _ => rfl
  rw [hsplit, Machine.frameBuffer_toList h]

/-- Settles O6: packing and unpacking are each other's inverse on 64 bytes, so packing is injective. -/
theorem envelopeCodecLaws : Obligations.EnvelopeCodecLaws := by
  refine ⟨fun c b t payload h => envUnpack_envPack c b t h, fun bytes h => ?_, ?_⟩
  · refine ⟨_, envUnpack_of_length h, ?_⟩
    rw [bytesAt_62_toList h, envPack_of_envUnpack h]
  · intro c c' b b' t t' payload payload' h h' heq
    obtain ⟨e, he, hc, hb, ht, hp⟩ := envUnpack_envPack c b t h.le
    obtain ⟨e', he', hc', hb', ht', hp'⟩ := envUnpack_envPack c' b' t' h'.le
    rw [heq] at he
    obtain rfl : e = e' := Except.ok.inj (he.symm.trans he')
    rw [h, Nat.sub_self, List.replicate_zero, List.append_nil] at hp
    rw [h', Nat.sub_self, List.replicate_zero, List.append_nil] at hp'
    exact ⟨hc.symm.trans hc', hb.symm.trans hb', ht.symm.trans ht', hp.symm.trans hp'⟩

/-! ### The decoder of a frame (spec/43_dispatch.md R91) -/

/-- On 64 bytes the channel decides, then the WireCommand after byte 0 (R91, R96). -/
theorem decodeFrame_of_length {p : Params} {b : List Byte} (h : b.length = 64) :
    decodeFrame p b =
      if channelOf (b.getD 0 0) = p.genericChannelId then wireDec p (b.getD 1 0 :: b.drop 2)
      else .error (.unknownChannel (channelOf (b.getD 0 0))) := by
  rw [decodeFrame, envUnpack_of_length h]
  simp only [bytesAt_62_toList h]

/-- A WireCommand of 63 bytes on the generic channel is read back, whatever the buffer type (R67, R91). -/
theorem decodeFrame_wrapWire {p : Params} (bt : BufferType) {w : List Byte} (hw : w.length = 63) :
    decodeFrame p (wrapWire p.genericChannelId bt w).toList = wireDec p w := by
  have hlen : (wrapWire p.genericChannelId bt w).toList.length = 64 := Vector.length_toList
  rw [decodeFrame_of_length hlen]
  obtain ⟨t, body, rfl⟩ := List.exists_cons_of_length_eq_add_one hw
  have hbody : body.length = 62 := by simpa using hw
  have hbytes : (wrapWire p.genericChannelId bt (t :: body)).toList = envByte0 p.genericChannelId bt :: t :: body := by
    rw [wrapWire, List.drop_one, List.tail_cons, envPack_toList _ _ _ hbody.le, hbody, Nat.sub_self, List.replicate_zero,
      List.append_nil]
    rfl
  rw [hbytes, List.getD_cons_zero, channelOf_envByte0, if_pos rfl, List.getD_cons_succ, List.getD_cons_zero,
    List.drop_succ_cons, List.drop_succ_cons, List.drop_zero]

/-- Settles O10: the envelope and the wire codec each give back what was put in. -/
theorem frameDecodeOfEncode : Obligations.FrameDecodeOfEncode := by
  intro p hwf i
  have hround (bt : BufferType) : decodeFrame p (wrapWire p.genericChannelId bt (wireEnc p i)).toList = .ok i := by
    rw [decodeFrame_wrapWire bt (wireEnc_length hwf i), wireDec_wireEnc hwf]
  exact ⟨hround .direct, hround⟩

/-- Settles O11: the headers of the table evaluated at the default parameters. -/
theorem tableWordsDecode : Obligations.TableWordsDecode := by
  unfold Obligations.TableWordsDecode
  decide

/-- A frame that carries a variant's tag decodes to the fields after its two header bytes (R52, R91). -/
theorem decodeFrame_of_carries {p : Params} (hwf : p.wf = true) {v : Variant} {b : List Byte}
    (h : Machine.FrameCarries p v b) : decodeFrame p b = .ok (decodeFields v (b.drop 2)) := by
  have hchannel : channelOf (b.getD 0 0) = p.genericChannelId :=
    BitVec.eq_of_toNat_eq ((Machine.channelOf_toNat _).trans h.channel)
  have hlen : v.payloadSize ≤ (b.drop 2).length := by
    rw [List.length_drop, h.length]
    exact payloadSize_le v
  rw [decodeFrame_of_length h.length, if_pos hchannel, h.tag, wireDec_tag hwf hlen]

/-- The tag of a decoded frame is byte 1, and its channel the generic one (R52, R96). -/
theorem tag_of_decodeFrame {p : Params} {b : List Byte} {i : Instr} (h : decodeFrame p b = .ok i) :
    p.tag i.variant = b.getD 1 0 ∧ channelOf (b.getD 0 0) = p.genericChannelId := by
  rw [decodeFrame_of_length (Machine.decodeFrame_length h)] at h
  split at h
  next hchannel =>
    obtain ⟨body, hw, -⟩ := wireDec_eq_ok h
    exact ⟨(List.cons.inj hw).1.symm, hchannel⟩
  next => cases h

end Sys2Proof

/-! ### The fields of a frame's command, at the frame's own bytes (spec/30_encoding.md R51 to R54) -/

namespace Sys2Proof

open Machine (leWordAt wordBytes)

/-- A u32 field is the number in its four bytes (R32). -/
theorem u32At_eq_leWordAt {b : List Byte} {p : Nat} (h : p + 4 ≤ b.length) : u32At b p = leWordAt b p := by
  have hfour : (b.drop p).take 4 = [b.getD p 0, b.getD (p + 1) 0, b.getD (p + 2) 0, b.getD (p + 3) 0] := by
    rw [← bytesAt_toList h]
    rw [bytesAt, Vector.toList_ofFn]
    rfl
  rw [u32At, leWordAt, hfour]
  congr 1
  simp only [fromLe]
  omega

theorem getD_drop_two (b : List Byte) (k : Nat) : (b.drop 2).getD k 0 = b.getD (k + 2) 0 := by
  rw [List.getD_eq_getElem?_getD, List.getElem?_drop, Nat.add_comm 2 k, ← List.getD_eq_getElem?_getD]

theorem u8At_drop_two (b : List Byte) (k : Nat) : u8At (b.drop 2) k = b.getD (k + 2) 0 := getD_drop_two b k

theorem boolAt_drop_two (b : List Byte) (k : Nat) : boolAt (b.drop 2) k = decide (b.getD (k + 2) 0 ≠ 0) := by
  rw [boolAt, getD_drop_two]
  exact Bool.eq_iff_iff.mpr (by simp)

theorem leWordAt_drop_two (b : List Byte) (k : Nat) : leWordAt (b.drop 2) k = leWordAt b (k + 2) := by
  simp only [leWordAt, getD_drop_two, Nat.add_right_comm k _ 2]

theorem u32At_drop_two {b : List Byte} (hlen : b.length = 64) {k : Nat} (hk : k + 6 ≤ 64) :
    u32At (b.drop 2) k = leWordAt b (k + 2) := by
  rw [u32At_eq_leWordAt (by rw [List.length_drop]; omega), leWordAt_drop_two]

theorem bytesAt_drop_two_toList {b : List Byte} (hlen : b.length = 64) {n k : Nat} (hk : k + n ≤ 62) :
    (bytesAt n (b.drop 2) k).toList = (b.drop (2 + k)).take n := by
  rw [bytesAt_toList (by rw [List.length_drop]; omega), List.drop_drop]

/-- Settles O41: each field of a response-direction command stands two bytes after its place in the body. -/
theorem responseCommandsDecode : Obligations.ResponseCommandsDecode := by
  intro p b hwf
  have decodes {v : Variant} (h : Machine.FrameCarries p v b) := decodeFrame_of_carries hwf h
  refine ⟨decodes, decodes, fun h => ?_, fun h => ?_, decodes, fun h => ?_, fun h => ?_, fun h => ?_, fun h => ?_,
    fun h => ?_, fun h => ?_, fun h => ?_⟩
  case refine_3 =>
    refine ⟨bytesAt 56 (b.drop 2) 4, bytesAt_drop_two_toList h.length (by decide), ?_⟩
    simp only [decodes h, decodeFields, decData, u32At_drop_two h.length, Nat.reduceAdd, Nat.reduceLeDiff]
  case refine_4 =>
    refine ⟨bytesAt 32 (b.drop 2) 8, bytesAt_drop_two_toList h.length (by decide), ?_⟩
    simp only [decodes h, decodeFields, decNodeInfo, u32At_drop_two h.length, Nat.reduceAdd, Nat.reduceLeDiff]
  case refine_9 =>
    refine ⟨bytesAt 52 (b.drop 2) 10, ?_, ?_⟩
    · rw [bytesAt_drop_two_toList h.length (by decide), List.take_of_length_le (by rw [List.length_drop, h.length])]
    · simp only [decodes h, decodeFields, decNodeInfoExt, u8At_drop_two, u32At_drop_two h.length, Nat.reduceAdd,
        Nat.reduceLeDiff]
  all_goals
    simp only [decodes h, decodeFields, decSetVar, decFlashStatus, decHeartbeat, decParConf, decParLockConf, u8At_drop_two,
      boolAt_drop_two, u32At_drop_two h.length, Nat.reduceAdd, Nat.reduceLeDiff]

end Sys2Proof

/-! ### The requests: which frames carry them, the response, the registers (spec/44, spec/45) -/

namespace Sys2Proof.Machine

/-- The response of a handler that touched the register file only, its fields written out (R98 to R102). -/
theorem respond_answers_fields {s s' : State} {resp : Instr} {fields : List Byte} (h : s' = { s with regs := s'.regs })
    (hfields : encodeFields resp = fields) :
    Answers s (respond resp s') (s.params.tag resp.variant) fields :=
  hfields ▸ (respond_answers resp h).1

/-! #### The fields of the responses (R53) -/

theorem encSetVar_eq (id : Byte) (v : Word) : encSetVar id v = id :: wordBytes v := by
  rw [encSetVar, le32_eq_wordBytes]

theorem encParConf_eq (id st : Byte) (v : Word) : encParConf id st v = id :: st :: wordBytes v := by
  rw [encParConf, le32_eq_wordBytes]

theorem encNodeInfoExt_eq (tc pc : Byte) (fh lh : Word) (name : Vector Byte 52) :
    encNodeInfoExt tc pc fh lh name = tc :: pc :: (wordBytes fh ++ wordBytes lh ++ name.toList) := by
  rw [encNodeInfoExt, le32_eq_wordBytes, le32_eq_wordBytes]

/-- A slot cut into the fields of its response and sent is the slot's bytes (R120, R122). -/
theorem encodeFields_decodeFields_slot {n : Nat} {v : Variant} (hbool : boolOffset v = none) (hsize : v.payloadSize = n)
    (d : Vector Byte n) : encodeFields (decodeFields v d.toList) = d.toList := by
  rw [encodeFields_decodeFields hbool (by rw [hsize, Vector.length_toList]), hsize,
    List.take_of_length_le (Vector.length_toList.le)]

/-! #### The `_OR_ZERO` forms (R138 to R140) -/

theorem rfGetU32OrZero_of_some {id : Byte} {s : State} {v : Word} (h : rfGet (.var id) s = some v) :
    rfGetU32OrZero id s = v := by rw [rfGetU32OrZero, h]; rfl

theorem rfGetU32OrZero_of_none {id : Byte} {s : State} (h : rfGet (.var id) s = none) :
    rfGetU32OrZero id s = 0 := by rw [rfGetU32OrZero, h]; rfl

theorem rfGetU8OrZero_of_some {s : State} {v : Byte} (h : rfGet .flashstatus s = some v) :
    rfGetU8OrZero s = v := by rw [rfGetU8OrZero, h]; rfl

theorem rfGetU8OrZero_of_none {s : State} (h : rfGet .flashstatus s = none) :
    rfGetU8OrZero s = 0 := by rw [rfGetU8OrZero, h]; rfl

theorem rfGetReqdataOrZeros_of_some {s : State} {d : Vector Byte 60} (h : rfGet .reqdata s = some d) :
    rfGetReqdataOrZeros s = d := by rw [rfGetReqdataOrZeros, h]; rfl

theorem rfGetReqdataOrZeros_of_none {s : State} (h : rfGet .reqdata s = none) :
    rfGetReqdataOrZeros s = Vector.replicate 60 0 := by rw [rfGetReqdataOrZeros, h]; rfl

theorem rfGetNodeinfoOrZeros_of_some {s : State} {d : Vector Byte 40} (h : rfGet .nodeinfo s = some d) :
    rfGetNodeinfoOrZeros s = d := by rw [rfGetNodeinfoOrZeros, h]; rfl

theorem rfGetNodeinfoOrZeros_of_none {s : State} (h : rfGet .nodeinfo s = none) :
    rfGetNodeinfoOrZeros s = Vector.replicate 40 0 := by rw [rfGetNodeinfoOrZeros, h]; rfl

/-! #### The commands -/

/-- Settles O31: each of the three has no field and its handler sends the empty response from the state it finds. -/
theorem emptyRequestsAreAcknowledged : Obligations.EmptyRequestsAreAcknowledged := by
  constructor
  · intro p b hwf
    exact ⟨decodeFrame_of_carries hwf, decodeFrame_of_carries hwf, decodeFrame_of_carries hwf⟩
  · intro s
    exact ⟨⟨_, rfl, respond_regs _ s, respond_answers_fields rfl rfl⟩,
      ⟨_, rfl, respond_regs _ s, respond_answers_fields rfl rfl⟩, ⟨_, rfl, respond_regs _ s, respond_answers_fields rfl rfl⟩⟩

/-- Settles O32: the handler writes the one register before it responds. -/
theorem setVariableWritesAndEchoes : Obligations.SetVariableWritesAndEchoes := by
  constructor
  · intro p b hwf h
    simp only [decodeFrame_of_carries hwf h, decodeFields, decSetVar, u8At_drop_two, u32At_drop_two h.length,
      Nat.reduceAdd, Nat.reduceLeDiff]
  · intro s id value
    exact ⟨_, rfl, respond_regs _ _, respond_answers_fields rfl (encSetVar_eq id value)⟩

/-- GET_VARIABLE_REQ answers the variable, or zero, and touches nothing (R116). -/
theorem exec_getVariableReq_answers (s : State) (id : Byte) :
    ∃ t, exec (.getVariableReq id) s = .next t ∧ t.regs = s.regs ∧
      Answers s t (s.params.tag .getVariableRes) (id :: wordBytes (rfGetU32OrZero id s)) :=
  ⟨_, rfl, respond_regs _ s, respond_answers_fields rfl (encSetVar_eq id _)⟩

/-- Settles O33: the `_OR_ZERO` read in its two cases. -/
theorem getVariableReadsOrZero : Obligations.GetVariableReadsOrZero := by
  constructor
  · intro p b hwf h
    simp only [decodeFrame_of_carries hwf h, decodeFields, decGetVar, u8At_drop_two, Nat.reduceAdd]
  · intro s id
    obtain ⟨t, hexec, hregs, hans⟩ := exec_getVariableReq_answers s id
    refine ⟨t, hexec, hregs, fun v hv => ?_, fun hnone => ?_⟩
    · rwa [rfGetU32OrZero_of_some (v := v) hv] at hans
    · rwa [rfGetU32OrZero_of_none (id := id) hnone] at hans

/-- DATA_REQ answers REQDATA, or zeros, cut into the fields of its response (R120). -/
theorem exec_dataReq_answers (s : State) :
    ∃ t, exec .dataReq s = .next t ∧ t.regs = s.regs ∧
      Answers s t (s.params.tag .dataRes) (rfGetReqdataOrZeros s).toList :=
  ⟨respond (decodeFields .dataRes (rfGetReqdataOrZeros s).toList) s, rfl, respond_regs _ s,
    respond_answers_fields rfl (encodeFields_decodeFields_slot rfl rfl _)⟩

/-- Settles O34: the `_OR_ZEROS` read in its two cases. -/
theorem dataRequestSendsReqdata : Obligations.DataRequestSendsReqdata := by
  refine ⟨fun p b hwf h => decodeFrame_of_carries hwf h, fun s => ?_⟩
  obtain ⟨t, hexec, hregs, hans⟩ := exec_dataReq_answers s
  refine ⟨t, hexec, hregs, fun d hd => ?_, fun hnone => ?_⟩
  · rwa [rfGetReqdataOrZeros_of_some hd] at hans
  · rwa [rfGetReqdataOrZeros_of_none hnone, Vector.toList_replicate] at hans

/-- NODE_INFO_REQ answers NODEINFO, or zeros, cut into the fields of its response (R122). -/
theorem exec_nodeInfoReq_answers (s : State) :
    ∃ t, exec .nodeInfoReq s = .next t ∧ t.regs = s.regs ∧
      Answers s t (s.params.tag .nodeInfoRes) (rfGetNodeinfoOrZeros s).toList :=
  ⟨respond (decodeFields .nodeInfoRes (rfGetNodeinfoOrZeros s).toList) s, rfl, respond_regs _ s,
    respond_answers_fields rfl (encodeFields_decodeFields_slot rfl rfl _)⟩

/-- Settles O35: the `_OR_ZEROS` read in its two cases. -/
theorem nodeInfoRequestSendsNodeinfo : Obligations.NodeInfoRequestSendsNodeinfo := by
  refine ⟨fun p b hwf h => decodeFrame_of_carries hwf h, fun s => ?_⟩
  obtain ⟨t, hexec, hregs, hans⟩ := exec_nodeInfoReq_answers s
  refine ⟨t, hexec, hregs, fun d hd => ?_, fun hnone => ?_⟩
  · rwa [rfGetNodeinfoOrZeros_of_some hd] at hans
  · rwa [rfGetNodeinfoOrZeros_of_none hnone, Vector.toList_replicate] at hans

/-- FLASH_CLEAR_REQ answers FLASHSTATUS, or zero (R124). -/
theorem exec_flashClearReq_answers (s : State) :
    ∃ t, exec .flashClearReq s = .next t ∧ t.regs = s.regs ∧
      Answers s t (s.params.tag .flashStatusRes) [rfGetU8OrZero s] :=
  ⟨_, rfl, respond_regs _ s, respond_answers_fields rfl rfl⟩

/-- Settles O36: the `_OR_ZERO` read in its two cases. -/
theorem flashClearReportsStatus : Obligations.FlashClearReportsStatus := by
  refine ⟨fun p b hwf h => decodeFrame_of_carries hwf h, fun s => ?_⟩
  obtain ⟨t, hexec, hregs, hans⟩ := exec_flashClearReq_answers s
  refine ⟨t, hexec, hregs, fun st hst => ?_, fun hnone => ?_⟩
  · rwa [rfGetU8OrZero_of_some (v := st) hst] at hans
  · rwa [rfGetU8OrZero_of_none hnone] at hans

/-- Settles O37: addition of machine words is addition modulo 2^32. -/
theorem heartbeatAddsOneAndWraps : Obligations.HeartbeatAddsOneAndWraps := by
  constructor
  · intro p b hwf h
    simp only [decodeFrame_of_carries hwf h, decodeFields, decHeartbeat, u32At_drop_two h.length, Nat.reduceAdd,
      Nat.reduceLeDiff]
  · intro s counter
    have hsum : counter + 1 = BitVec.ofNat 32 ((counter.toNat + 1) % 2 ^ 32) := by
      apply BitVec.eq_of_toNat_eq
      simp
    refine ⟨_, rfl, respond_regs _ s, respond_answers_fields rfl ?_⟩
    exact (le32_eq_wordBytes _).trans (congrArg wordBytes hsum)

theorem parExists_eq_false {id : Byte} {s : State} (h : s.regs.par[id.toNat]? = none) : parExists id s = false :=
  decide_eq_false (List.getElem?_eq_none_iff.mp h).not_gt

/-- An entry stands below N_PAR (R18). -/
theorem not_length_le_of_getElem? {α : Type} {l : List α} {k : Nat} {a : α} (h : l[k]? = some a) : ¬ l.length ≤ k :=
  Nat.not_le.mpr (List.getElem?_eq_some_iff.mp h).1

/-- Settles O38: one branch of the handler for each of the three clauses. -/
theorem parameterSetInOrder : Obligations.ParameterSetInOrder := by
  constructor
  · intro p b hwf h
    simp only [decodeFrame_of_carries hwf h, decodeFields, decParSet, u8At_drop_two, u32At_drop_two h.length,
      Nat.reduceAdd, Nat.reduceLeDiff]
  · intro s id value
    cases he : s.regs.par[id.toNat]? with
    | none =>
      exact ⟨_, exec_parameterSetReq_unknown value (parExists_eq_false he),
        fun _ => ⟨respond_regs _ s, respond_answers_fields rfl (encParConf_eq id 1 0)⟩, nofun, nofun⟩
    | some e =>
      have hknown := not_length_le_of_getElem? he
      cases hl : e.locked with
      | true =>
        refine ⟨_, exec_parameterSetReq_locked value he hl, fun hge => absurd hge hknown, fun _ _ _ => ?_, ?_⟩
        · exact ⟨respond_regs _ s, respond_answers_fields rfl (encParConf_eq id 2 0)⟩
        · rintro _ ⟨⟩ hl'
          cases hl.symm.trans hl'
      | false =>
        refine ⟨_, exec_parameterSetReq_unlocked value he hl, fun hge => absurd hge hknown, ?_, ?_⟩
        · rintro _ ⟨⟩ hl'
          cases hl.symm.trans hl'
        · rintro _ ⟨⟩ _
          exact ⟨by rw [respond_regs, parSetValue_eq value he], respond_answers_fields rfl (encParConf_eq id 0 value)⟩

/-- Settles O39: the lock is not read before it is written. -/
theorem parameterLockIsUnconditional : Obligations.ParameterLockIsUnconditional := by
  constructor
  · intro p b hwf h
    simp only [decodeFrame_of_carries hwf h, decodeFields, decParLock, u8At_drop_two, boolAt_drop_two, Nat.reduceAdd]
  · intro s id lock
    cases he : s.regs.par[id.toNat]? with
    | none =>
      exact ⟨_, exec_parameterSetLockReq_unknown lock (parExists_eq_false he),
        fun _ => ⟨respond_regs _ s, respond_answers_fields rfl rfl⟩, nofun⟩
    | some e =>
      refine ⟨_, exec_parameterSetLockReq_known lock he, fun hge => absurd hge (not_length_le_of_getElem? he), ?_⟩
      rintro _ ⟨⟩
      exact ⟨by rw [respond_regs, parSetLock_eq lock he], respond_answers_fields rfl rfl⟩

/-- The name as it is sent is the register's first 52 bytes (R132). -/
theorem deviceNameSent_toList (s : State) : (deviceNameSent s).toList = s.regs.deviceName.toList.take 52 := by
  rw [deviceNameSent, bytesAt_toList (by rw [Vector.length_toList]; decide), List.drop_zero]

theorem telCount_toNat (s : State) : (telCount s).toNat = s.regs.tel.length % 256 := BitVec.toNat_ofNat ..

theorem parCount_toNat (s : State) : (parCount s).toNat = s.regs.par.length % 256 := BitVec.toNat_ofNat ..

/-- Settles O40: the two counts are the table lengths as bytes, exact for the tables of R23. -/
theorem nodeInfoExtReportsCountsAndIdentity : Obligations.NodeInfoExtReportsCountsAndIdentity := by
  refine ⟨fun p b hwf h => decodeFrame_of_carries hwf h, fun s => ?_⟩
  have htel := telCount_toNat s
  have hpar := parCount_toNat s
  refine ⟨_, telCount s, parCount s, rfl, respond_regs _ s, htel, hpar, by omega, by omega, ?_⟩
  refine respond_answers_fields rfl ((encNodeInfoExt_eq ..).trans ?_)
  rw [deviceNameSent_toList]

end Sys2Proof.Machine

/-! ### The laws of the identifier codec (spec/40_identifier_codec.md R63) -/

namespace Sys2Proof

theorem Direction.code_injective : ∀ d d' : Direction, d.code = d'.code → d = d' := by
  intro d d'
  cases d <;> cases d' <;> decide

theorem SpecialCmd.code_injective : ∀ c c' : SpecialCmd, c.code = c'.code → c = c' := by
  intro c c'
  cases c <;> cases c' <;> decide

theorem Priority.code_injective : ∀ q q' : Priority, q.code = q'.code → q = q' := by
  intro q q'
  cases q <;> cases q' <;> decide

/-- The four codes determine the identifier. -/
theorem MessageIdentifier.eq_of_codes {m m' : MessageIdentifier}
    (hdirection : m.direction.code.toNat = m'.direction.code.toNat) (hnode : m.nodeId.toNat = m'.nodeId.toNat)
    (hspecial : m.specialCmd.code.toNat = m'.specialCmd.code.toNat)
    (hpriority : m.priority.code.toNat = m'.priority.code.toNat) : m = m' := by
  cases m
  cases m'
  congr 1
  · exact Direction.code_injective _ _ (BitVec.eq_of_toNat_eq hdirection)
  · exact BitVec.eq_of_toNat_eq hnode
  · exact SpecialCmd.code_injective _ _ (BitVec.eq_of_toNat_eq hspecial)
  · exact Priority.code_injective _ _ (BitVec.eq_of_toNat_eq hpriority)

/-- Each field is read from the place it was packed at (R63). -/
theorem idUnpack_idPack (m : MessageIdentifier) : idUnpack (idPack m) = m := by
  have hd := m.direction.code.isLt
  have hn := m.nodeId.isLt
  have hs := m.specialCmd.code.isLt
  have hp := m.priority.code.isLt
  obtain ⟨hdirection, hnode, hspecial, hpriority⟩ := idUnpack_toNat (idPack m)
  rw [idPack_toNat] at hdirection hnode hspecial hpriority
  exact MessageIdentifier.eq_of_codes (by omega) (by omega) (by omega) (by omega)

/-- The mask 0x7FF keeps the low eleven bits. -/
theorem toNat_and_0x7FF (v : BitVec 16) : (v &&& 0x7FF).toNat = v.toNat % 2 ^ 11 := by
  rw [BitVec.toNat_and, ← Nat.and_two_pow_sub_one_eq_mod]
  rfl

/-- Packing an unpacked word clears bits 15:11 and keeps the others (R63). -/
theorem idPack_idUnpack (v : BitVec 16) : idPack (idUnpack v) = v &&& 0x7FF := by
  obtain ⟨hdirection, hnode, hspecial, hpriority⟩ := idUnpack_toNat v
  apply BitVec.eq_of_toNat_eq
  rw [idPack_toNat, hdirection, hnode, hspecial, hpriority, toNat_and_0x7FF]
  omega

/-- Settles O3: unpacking is the inverse of packing on the words without bits 15:11. -/
theorem identifierCodecLaws : Obligations.IdentifierCodecLaws := by
  refine ⟨idUnpack_idPack, idPack_idUnpack, ⟨fun m m' h => ?_, fun v => ⟨fun hle => ?_, ?_⟩⟩, fun m => ?_⟩
  · rw [← idUnpack_idPack m, h, idUnpack_idPack]
  · refine ⟨idUnpack v, BitVec.eq_of_toNat_eq ?_⟩
    rw [idPack_idUnpack, toNat_and_0x7FF]
    omega
  · rintro ⟨m, rfl⟩
    exact idPack_toNat_le m
  · obtain ⟨a, ha, -⟩ := idToArb_of_lt (Nat.lt_succ_of_le (idPack_toNat_le m))
    exact ⟨a, ha⟩

end Sys2Proof

/-! ### What the reset sequence leaves (spec/70_reset_and_hazards.md R170, R171) -/

namespace Sys2Proof.Machine

theorem step_of_reset {s : State} (h : s.phase = .reset) : step s = .next (resetSequence s) := by
  simp only [step, h]

theorem step_of_failed {s : State} (h : s.phase = .failed) : step s = .fault .startupFailed := by
  simp only [step, h]

/-- The bounds of R23. -/
theorem cfgRecord_wf_iff {c : CfgRecord} :
    c.wf = true ↔ c.deviceName.length ≤ 53 ∧ c.par.length ≤ 255 ∧ c.tel.length ≤ 255 := by
  simp only [CfgRecord.wf, Bool.and_eq_true, decide_eq_true_eq, and_assoc]

/-- A well-formed record's name fits the register and is filled with zeros (R27). -/
theorem loadRegs_deviceName_toList {c : CfgRecord} (h : c.wf = true) :
    (loadRegs c).deviceName.toList = c.deviceName ++ List.replicate (53 - c.deviceName.length) 0 := by
  obtain ⟨hname, -⟩ := cfgRecord_wf_iff.mp h
  exact bytesAt_zero_toList_of_le hname

/-- The tables of a well-formed record fit their counts (R23). -/
theorem loadRegs_tables_le {c : CfgRecord} (h : c.wf = true) :
    (loadRegs c).par.length ≤ 255 ∧ (loadRegs c).tel.length ≤ 255 := by
  obtain ⟨-, htables⟩ := cfgRecord_wf_iff.mp h
  exact htables

/-- Settles O28: the registers are the record's, the name filled with zeros. -/
theorem successfulResetLoadsEveryRegister : Obligations.SuccessfulResetLoadsEveryRegister := by
  intro s c hphase hp hcfg hc hopen
  refine ⟨_, step_of_reset hphase, ?_⟩
  rw [resetSequence_of_success hp hcfg hc hopen]
  exact ⟨rfl, rfl, rfl, rfl, rfl, rfl, rfl, rfl, rfl, loadRegs_deviceName_toList hc, rfl, rfl, rfl, rfl, rfl, rfl⟩

/-- A reset sequence that ends in `failStartup` is a fatal failure (R171). -/
theorem failsStartup_of_resetSequence {s : State} {e : DiagEvent} (hphase : s.phase = .reset)
    (h : resetSequence s = failStartup e s) : FailsStartup s e :=
  ⟨failStartup e s, h ▸ step_of_reset hphase, rfl, rfl, rfl, rfl, step_of_failed rfl⟩

/-- Settles O29: each cause is met at its own place of the reset sequence, when those before it are not. -/
theorem startupFailuresInOrder : Obligations.StartupFailuresInOrder := by
  intro s hphase
  refine ⟨fun row hrow => ?_, fun hcheck => ⟨fun hcause => ?_, fun c hp hcfg hc hclosed => ?_⟩⟩ <;>
    apply failsStartup_of_resetSequence hphase
  · simp only [resetSequence, hrow]
  · simp only [resetSequence, hcheck]
    rcases hcause with hcfg | hp | ⟨c, hcfg, hc⟩
    · simp only [hcfg]
    · cases s.cfg <;> simp [hp]
    · simp [hcfg, hc]
  · simp [resetSequence, hcheck, hcfg, hp, hc, hclosed]

/-- Settles O27: nothing has been sent or logged, and the registers of the empty record are the cleared ones. -/
theorem resetStateHasInv : Obligations.ResetStateHasInv := by
  constructor
  · exact ⟨fun _ => by decide, fun _ => by decide, nofun, nofun⟩
  · have hregs : loadRegs .empty = clearedRegs := by
      simp only [loadRegs, clearedRegs, CfgRecord.empty]
      congr 1
    have hreset := resetSequence_of_success (s := State.reset.assertReset (.record .empty) true) (c := .empty)
      (by decide) rfl (by decide) rfl
    rw [step_of_reset rfl, hreset, hregs]
    rfl

end Sys2Proof.Machine

/-! ### One step of the serving phase (spec/43_dispatch.md R90 to R105) -/

namespace Sys2Proof.Machine

/-- The state in which a frame that carries a command is served (R91). -/
theorem served_eq {p : Params} {f : RxFrame} {i : Instr} (s : State) (ans : TxAnswer) (rest : List Arrival)
    (h : receiveFrame p f = .ok i) :
    latchFrame f (takeArrival { event := .rxFrame f, answer := ans } rest s) =
      served s f ans rest (frameBuffer f.data) := by
  rw [latchFrame_eq _ h]
  rfl

/-- A frame that carries a command is served by `exec` (R91). -/
theorem step_of_receiveFrame_ok {s : State} {f : RxFrame} {ans : TxAnswer} {rest : List Arrival} {i : Instr}
    (hphase : s.phase = .idle) (hrx : s.rx = { event := .rxFrame f, answer := ans } :: rest)
    (h : receiveFrame s.params f = .ok i) : step s = exec i (served s f ans rest (frameBuffer f.data)) := by
  rw [← served_eq s ans rest h]
  simp only [step, hphase, fetch, hrx, h]

/-- A frame that carries none is dropped (R92 to R96). -/
theorem step_of_receiveFrame_error {s : State} {f : RxFrame} {ans : TxAnswer} {rest : List Arrival} {e : DecodeError}
    (hphase : s.phase = .idle) (hrx : s.rx = { event := .rxFrame f, answer := ans } :: rest)
    (h : receiveFrame s.params f = .error e) :
    step s = .next (dropFrame e (latchFrame f (takeArrival { event := .rxFrame f, answer := ans } rest s))) := by
  simp only [step, hphase, fetch, hrx, h]

theorem step_of_rxError {s : State} {ans : TxAnswer} {rest : List Arrival} (hphase : s.phase = .idle)
    (hrx : s.rx = { event := .rxError, answer := ans } :: rest) :
    step s = .next (emitDiag .transportRead (takeArrival { event := .rxError, answer := ans } rest s)) := by
  simp only [step, hphase, fetch, hrx]

theorem step_of_rx_nil {s : State} (hphase : s.phase = .idle) (hrx : s.rx = []) : step s = .next s := by
  simp only [step, hphase, fetch, hrx]

/-- Settles O12: RXB holds the 64 data bytes, and the rest of the served state is by definition. -/
theorem stepRunsDecodedInstruction : Obligations.StepRunsDecodedInstruction := by
  intro s f ans rest i hphase hrx hfd hext hdec
  exact ⟨frameBuffer f.data, frameBuffer_toList (decodeFrame_length hdec),
    step_of_receiveFrame_ok hphase hrx (receiveFrame_ok.mpr ⟨hfd, hext, hdec⟩)⟩

/-- Settles O13: taking a read error writes the port and the log only. -/
theorem readErrorIsSkipped : Obligations.ReadErrorIsSkipped := by
  intro s ans rest hphase hrx
  refine ⟨_, step_of_rxError hphase hrx, ⟨rfl, ?_⟩, rfl, rfl⟩
  rw [hrx]
  rfl

/-- What a step of the serving phase can be. A command's answer is sent in the state its handler left. -/
inductive Serves (s : State) : State → Prop where
  | wait (hrx : s.rx = []) : Serves s s
  | readError (ans : TxAnswer) (rest : List Arrival) (hrx : s.rx = { event := .rxError, answer := ans } :: rest) :
      Serves s (emitDiag .transportRead (takeArrival { event := .rxError, answer := ans } rest s))
  | dropped (f : RxFrame) (ans : TxAnswer) (rest : List Arrival) (e : DecodeError)
      (hrx : s.rx = { event := .rxFrame f, answer := ans } :: rest) (he : receiveFrame s.params f = .error e) :
      Serves s (dropFrame e (latchFrame f (takeArrival { event := .rxFrame f, answer := ans } rest s)))
  | ignored (f : RxFrame) (ans : TxAnswer) (rest : List Arrival) (i : Instr)
      (hrx : s.rx = { event := .rxFrame f, answer := ans } :: rest) (hi : receiveFrame s.params f = .ok i)
      (hresponse : i.variant.isResponse = true) :
      Serves s (ignoreResponse i.variant (served s f ans rest (frameBuffer f.data)))
  | answered (f : RxFrame) (ans : TxAnswer) (rest : List Arrival) (i resp : Instr) (s' : State)
      (hrx : s.rx = { event := .rxFrame f, answer := ans } :: rest) (hi : receiveFrame s.params f = .ok i)
      (hresp : resp.variant.isResponse = true) (hreply : replyOf i.variant = some resp.variant)
      (hhandled : Handled (served s f ans rest (frameBuffer f.data)) i s') : Serves s (respond resp s')

/-- A step of the serving phase answers a next state, and that is one of these (R90, R105). -/
theorem step_serves {s : State} (hphase : s.phase = .idle) : ∃ t, step s = .next t ∧ Serves s t := by
  rcases fetch_cases s with ⟨hrx, -⟩ | ⟨ans, rest, hrx, -⟩ | ⟨f, ans, rest, e, hrx, he, -⟩ | ⟨f, ans, rest, i, hrx, hi, -⟩
  · exact ⟨_, step_of_rx_nil hphase hrx, .wait hrx⟩
  · exact ⟨_, step_of_rxError hphase hrx, .readError ans rest hrx⟩
  · exact ⟨_, step_of_receiveFrame_error hphase hrx he, .dropped f ans rest e hrx he⟩
  · have hstep := step_of_receiveFrame_ok hphase hrx hi
    rcases exec_cases i (served s f ans rest (frameBuffer f.data)) with ⟨hv, hx⟩ | ⟨-, resp, s', hresp, hreply, hh, hx⟩
    · exact ⟨_, hstep.trans hx, .ignored f ans rest i hrx hi hv⟩
    · exact ⟨_, hstep.trans hx, .answered f ans rest i resp s' hrx hi hresp hreply hh⟩

theorem serves_of_step {s t : State} (hphase : s.phase = .idle) (h : step s = .next t) : Serves s t := by
  obtain ⟨t', h', hs⟩ := step_serves hphase
  cases h.symm.trans h'
  exact hs

/-- Sending a response touches TX, TXB and the log only (R98 to R102). -/
theorem respond_eq_ports (resp : Instr) (s : State) :
    respond resp s = { s with
      txb := responseData resp s
      tx := s.tx ++ [responseRecord resp s]
      diag := s.diag ++ (if s.txAnswer = .transportError then [.transportWrite] else []) } := by
  rw [respond_eq, sendFrame_eq]
  rfl

/-- A handled and answered command differs from the state it was served in by the registers and the output ports. -/
theorem Handled.respond_eq {s s' : State} {i : Instr} (h : Handled s i s') (resp : Instr) :
    respond resp s' = { s with
      regs := s'.regs
      txb := responseData resp s
      tx := s.tx ++ [responseRecord resp s]
      diag := s.diag ++ (if s.txAnswer = .transportError then [.transportWrite] else []) } := by
  rw [h.eq_regs, respond_eq_ports]
  rfl

/-- Settles O15: every case of a serving step keeps phase and parameters and takes at most the head of RX. -/
theorem frameStepCompletes : Obligations.FrameStepCompletes := by
  intro s hphase
  obtain ⟨t, hstep, hserves⟩ := step_serves hphase
  refine ⟨t, hstep, ?_⟩
  cases hserves with
  | wait hrx => simp [hrx, hphase]
  | readError ans rest hrx => simp [hrx, hphase]
  | dropped f ans rest e hrx he => simp [hrx, hphase]
  | ignored f ans rest i hrx hi hresponse => simp [hrx, hphase, served]
  | answered f ans rest i resp s' hrx hi hresp hreply hhandled => simp [hrx, hphase, hhandled.respond_eq, served]

end Sys2Proof.Machine

/-! ### Which frames carry a command, and what a step logs (spec/60_exceptions.md R151, R154) -/

namespace Sys2Proof.Machine

theorem ofNat_toNat_eq_channelOf (b : Byte) : BitVec.ofNat 6 b.toNat = channelOf b := by
  apply BitVec.eq_of_toNat_eq
  rw [BitVec.toNat_ofNat, channelOf_toNat]

theorem all_tags_ne_iff (p : Params) (t : Byte) :
    (Variant.all.all fun v => p.tag v != t) = true ↔ variantOfTag p t = none := by
  simp [variantOfTag, List.find?_eq_none]

/-- The defects of R154 are exactly the failures of the engine's own steps, in the same order. -/
theorem receiveFrame_eq_frameDefect (p : Params) (f : RxFrame) :
    (∃ e, frameDefect p f = some e ∧ receiveFrame p f = .error e) ∨
    (frameDefect p f = none ∧ ∃ i, receiveFrame p f = .ok i) := by
  unfold frameDefect
  by_cases hkind : f.fd = false ∨ f.ext = true
  · rw [if_pos hkind]
    exact .inl ⟨_, rfl, if_pos (by simpa using hkind)⟩
  have hreceive : receiveFrame p f = decodeFrame p f.data := if_neg (by simpa using hkind)
  rw [if_neg hkind, hreceive]
  by_cases hlen : f.data.length = 64
  case neg =>
    rw [if_pos hlen]
    exact .inl ⟨_, rfl, by rw [decodeFrame, envUnpack_of_length_ne hlen]⟩
  rw [if_neg (not_not.mpr hlen), decodeFrame_of_length hlen, ofNat_toNat_eq_channelOf]
  by_cases hchannel : channelOf (f.data.getD 0 0) = p.genericChannelId
  case neg =>
    rw [if_pos fun h => hchannel (BitVec.eq_of_toNat_eq ((channelOf_toNat _).trans h)), if_neg hchannel]
    exact .inl ⟨_, rfl, rfl⟩
  rw [if_neg (not_not.mpr (by rw [← hchannel, channelOf_toNat])), if_pos hchannel]
  cases hv : variantOfTag p (f.data.getD 1 0) with
  | none =>
    rw [if_pos ((all_tags_ne_iff ..).mpr hv), wireDec_cons_of_none hv]
    exact .inl ⟨_, rfl, rfl⟩
  | some v =>
    have hbody : v.payloadSize ≤ (f.data.drop 2).length := by
      rw [List.length_drop, hlen]
      exact payloadSize_le v
    have hknown : ¬ (Variant.all.all fun v => p.tag v != f.data.getD 1 0) = true := by
      rw [all_tags_ne_iff, hv]
      nofun
    rw [if_neg hknown, wireDec_cons_of_some hv, if_neg hbody.not_gt]
    exact .inr ⟨rfl, _, rfl⟩

theorem receiveFrame_of_defect {p : Params} {f : RxFrame} {e : DecodeError} (h : frameDefect p f = some e) :
    receiveFrame p f = .error e := by
  rcases receiveFrame_eq_frameDefect p f with ⟨e', he', hr⟩ | ⟨hnone, -⟩
  · cases h.symm.trans he'
    exact hr
  · cases h.symm.trans hnone

theorem receiveFrame_of_no_defect {p : Params} {f : RxFrame} (h : frameDefect p f = none) :
    ∃ i, receiveFrame p f = .ok i := by
  rcases receiveFrame_eq_frameDefect p f with ⟨e', he', -⟩ | ⟨-, hi⟩
  · cases h.symm.trans he'
  · exact hi

/-- A dropped frame is logged under one of the codes 2 to 5: the payload region holds the fields of every row. -/
theorem code_of_receiveFrame_error {p : Params} {f : RxFrame} {e : DecodeError} (h : receiveFrame p f = .error e) :
    (DiagEvent.decode e).code ∈ [2, 3, 4, 5] := by
  rcases receiveFrame_eq_frameDefect p f with ⟨e', he', hr⟩ | ⟨-, i, hr⟩
  · cases h.symm.trans hr
    unfold frameDefect at he'
    split_ifs at he' <;> cases he' <;> simp [DiagEvent.code]
  · cases h.symm.trans hr

/-- The reset sequence fails with an event of code 10 to 12, or loads a well-formed record (R170, R171). -/
theorem resetSequence_fails_or_loads (s : State) :
    (∃ e : DiagEvent, e.code ∈ [10, 11, 12] ∧ resetSequence s = failStartup e s) ∨
    (∃ c, s.params.wf = true ∧ c.wf = true ∧
      resetSequence s = { s with phase := .idle, regs := loadRegs c, frameIndex := 0 }) := by
  rcases resetSequence_cases s with ⟨row, -, h⟩ | ⟨-, -, h⟩ | ⟨c, -, -, -, -, -, h⟩ | ⟨c, -, -, hp, hc, -, h⟩
  · exact .inl ⟨_, by simp [DiagEvent.code], h⟩
  · exact .inl ⟨_, by simp [DiagEvent.code], h⟩
  · exact .inl ⟨_, by simp [DiagEvent.code], h⟩
  · exact .inr ⟨c, hp, hc, h⟩

/-- What a serving step logs (R151). -/
theorem Serves.logs {s t : State} (h : Serves s t) :
    ∃ new : List DiagEvent, t.diag = s.diag ++ new ∧ new.length ≤ 1 ∧ ∀ e ∈ new, e.code ∈ [1, 2, 3, 4, 5, 8, 9] := by
  cases h with
  | wait hrx => exact ⟨[], (List.append_nil _).symm, Nat.zero_le _, nofun⟩
  | readError ans rest hrx => exact ⟨[.transportRead], rfl, le_rfl, by simp [DiagEvent.code]⟩
  | dropped f ans rest e hrx he =>
    have hsub : ([2, 3, 4, 5] : List (BitVec 8)) ⊆ [1, 2, 3, 4, 5, 8, 9] := by decide
    refine ⟨[.decode e], by simp, le_rfl, fun e' he' => ?_⟩
    rw [List.mem_singleton.mp he']
    exact hsub (code_of_receiveFrame_error he)
  | ignored f ans rest i hrx hi hresponse => exact ⟨[.unexpectedResponse _], rfl, le_rfl, by simp [DiagEvent.code]⟩
  | answered f ans rest i resp s' hrx hi hresp hreply hhandled =>
    refine ⟨if ans = .transportError then [.transportWrite] else [], ?_, ?_, ?_⟩
    · rw [hhandled.respond_eq]
      rfl
    · split <;> simp
    · split <;> simp [DiagEvent.code]

/-- Settles O22: a serving step logs what `Serves` says, the reset sequence a fatal failure or nothing. -/
theorem reportedCodes : Obligations.ReportedCodes := by
  intro s t hstep
  cases hphase : s.phase with
  | reset =>
    cases (step_of_reset hphase).symm.trans hstep
    rcases resetSequence_fails_or_loads s with ⟨e, hcode, h⟩ | ⟨c, -, -, h⟩ <;> rw [h]
    · refine ⟨[e], rfl, le_rfl, ?_⟩
      rintro _ ⟨⟩
      · exact ⟨nofun, fun _ => hcode⟩
      · contradiction
    · exact ⟨[], (List.append_nil _).symm, Nat.zero_le _, nofun⟩
  | idle =>
    obtain ⟨new, hdiag, hlen, hcode⟩ := (serves_of_step hphase hstep).logs
    exact ⟨new, hdiag, hlen, fun e he => ⟨fun _ => hcode e he, nofun⟩⟩
  | failed => cases (step_of_failed hphase).symm.trans hstep

theorem dropped_of_receiveFrame_error {s : State} {f : RxFrame} {ans : TxAnswer} {rest : List Arrival} {e : DecodeError}
    (hrx : s.rx = { event := .rxFrame f, answer := ans } :: rest) :
    Dropped s (dropFrame e (latchFrame f (takeArrival { event := .rxFrame f, answer := ans } rest s))) (.decode e) := by
  refine ⟨by simp, ?_⟩
  rw [hrx]
  unfold latchFrame
  split <;> rfl

theorem receives_of_receiveFrame {s : State} {f : RxFrame} {ans : TxAnswer} {rest : List Arrival} {i : Instr}
    (hrx : s.rx = { event := .rxFrame f, answer := ans } :: rest) (h : receiveFrame s.params f = .ok i) :
    Receives s f i := ⟨ans, rest, hrx, receiveFrame_ok.mp h⟩

/-- Settles O14: the first defect is the engine's first failure, and a step logs at most one event. -/
theorem firstDefectIsReported : Obligations.FirstDefectIsReported := by
  refine ⟨fun s f ans rest hphase hrx => ⟨fun e he => ?_, fun hnone => ?_⟩, fun s t hstep => ?_⟩
  · exact ⟨_, step_of_receiveFrame_error hphase hrx (receiveFrame_of_defect he), dropped_of_receiveFrame_error hrx⟩
  · obtain ⟨i, hi⟩ := receiveFrame_of_no_defect hnone
    exact ⟨i, receives_of_receiveFrame hrx hi⟩
  · obtain ⟨new, hdiag, hlen, -⟩ := reportedCodes s t hstep
    match new, hlen with
    | [], _ => exact .inl (hdiag.trans (List.append_nil _))
    | [e], _ => exact .inr ⟨e, hdiag⟩

/-- Settles O42: the handler of each of the twelve logs and does nothing else; in a step the tag is that of the frame. -/
theorem responseCommandsAreIgnored : Obligations.ResponseCommandsAreIgnored := by
  have ignored (i : Instr) (s : State) (hv : i.variant.isResponse = true) :
      exec i s = .next (ignoreResponse i.variant s) := by
    rcases exec_cases i s with ⟨-, h⟩ | ⟨hrequest, -⟩
    · exact h
    · cases hv.symm.trans hrequest
  refine ⟨ignored, ?_⟩
  rintro s f i hphase ⟨ans, rest, hrx, hfd, hext, hdec⟩ hv
  have hstep := step_of_receiveFrame_ok hphase hrx (receiveFrame_ok.mpr ⟨hfd, hext, hdec⟩)
  refine ⟨_, hstep.trans (ignored i _ hv), ?_, ?_⟩
  · rw [← (tag_of_decodeFrame hdec).1]
    rfl
  · rw [hrx]
    rfl

end Sys2Proof.Machine

/-! ### Which registers a step writes (spec/10_state.md R26, spec/20_memory.md R38) -/

namespace Sys2Proof.Machine

/-- Settles O17: of the cases of a serving step only the answered one writes a register, the one its handler names. -/
theorem onlyTheNamedRegisterIsWritten : Obligations.OnlyTheNamedRegisterIsWritten := by
  intro s t hphase hstep
  cases serves_of_step hphase hstep with
  | wait hrx => exact .inl rfl
  | readError ans rest hrx => exact .inl rfl
  | dropped f ans rest e hrx he => exact .inl (by simp)
  | ignored f ans rest i hrx hi hresponse => exact .inl rfl
  | answered f ans rest i resp s' hrx hi hresp hreply hhandled =>
    have hreceives := receives_of_receiveFrame hrx hi
    rw [respond_regs]
    cases hhandled with
    | same => exact .inl rfl
    | setVar id v hset =>
      subst hset
      exact .inr (.inl ⟨f, id, v, hreceives, rfl⟩)
    | value id v e hset he hl =>
      subst hset
      exact .inr (.inr (.inl ⟨f, id, v, e, hreceives, he, hl, congrArg State.regs (parSetValue_eq v he)⟩))
    | lock id b e hset he =>
      subst hset
      exact .inr (.inr (.inr ⟨f, id, b, e, hreceives, he, congrArg State.regs (parSetLock_eq b he)⟩))

/-- Replacing an entry by one with the same image leaves the list of images as it was. -/
theorem map_set_of_eq {α β : Type} {g : α → β} {l : List α} {k : Nat} {a a' : α} (h : l[k]? = some a)
    (ha : g a' = g a) : (l.set k a').map g = l.map g := by
  rw [List.map_set, ha]
  exact list_set_of_getElem?_eq_some (by rw [List.getElem?_map, h]; rfl)

/-- Settles O18: none of the three writes touches what the loader alone writes. -/
theorem loadedOnceStaysFixed : Obligations.LoadedOnceStaysFixed := by
  intro s t hphase hstep
  rcases onlyTheNamedRegisterIsWritten s t hphase hstep with
    h | ⟨f, id, v, -, h⟩ | ⟨f, id, v, e, -, he, -, h⟩ | ⟨f, id, b, e, -, he, h⟩ <;> rw [h]
  · exact ⟨rfl, rfl, rfl, rfl, rfl, rfl, rfl, rfl, rfl, rfl⟩
  · exact ⟨rfl, rfl, rfl, rfl, rfl, rfl, rfl, rfl, rfl, rfl⟩
  · exact ⟨rfl, rfl, rfl, rfl, rfl, rfl, rfl, rfl, rfl, map_set_of_eq he rfl⟩
  · exact ⟨rfl, rfl, rfl, rfl, rfl, rfl, rfl, rfl, rfl, map_set_of_eq he rfl⟩

/-- N_PAR and N_TEL are constant while serving (R146). -/
theorem tables_length_of_step {s t : State} (hphase : s.phase = .idle) (hstep : step s = .next t) :
    t.regs.par.length = s.regs.par.length ∧ t.regs.tel.length = s.regs.tel.length := by
  obtain ⟨-, -, -, -, -, -, -, -, htel, hdtypes⟩ := loadedOnceStaysFixed s t hphase hstep
  have hlength := congrArg List.length hdtypes
  rw [List.length_map, List.length_map] at hlength
  exact ⟨hlength, by rw [htel]⟩

/-- Settles O19: the value write needs an unlocked entry, and the lock write keeps the value. -/
theorem lockedParameterKeepsItsValue : Obligations.LockedParameterKeepsItsValue := by
  intro s t k e hphase hstep hk hlocked
  rcases onlyTheNamedRegisterIsWritten s t hphase hstep with
    h | ⟨f, id, v, -, h⟩ | ⟨f, id, v, e', -, he, hl, h⟩ | ⟨f, id, b, e', -, he, h⟩ <;> rw [h]
  · exact ⟨e, hk, rfl, rfl⟩
  · exact ⟨e, hk, rfl, rfl⟩
  · have hne : id.toNat ≠ k := by
      rintro rfl
      cases he.symm.trans hk
      cases hl.symm.trans hlocked
    exact ⟨e, by rw [List.getElem?_set_ne hne, hk], rfl, rfl⟩
  · by_cases hid : id.toNat = k
    · subst hid
      cases he.symm.trans hk
      exact ⟨_, List.getElem?_set_self (List.getElem?_eq_some_iff.mp he).1, rfl, rfl⟩
    · exact ⟨e, by rw [List.getElem?_set_ne hid, hk], rfl, rfl⟩

end Sys2Proof.Machine

/-! ### The laws of the state operators (spec/46_state_operators.md R146) -/

namespace Sys2Proof.Machine

theorem rfGet_rfSet_same (r : FlatReg) (v : r.Value) (s : State) : rfGet r (rfSet r v s) = some v := by
  cases r with
  | var id => exact Vector.getElem_set_self id.isLt
  | reqdata | nodeinfo | flashstatus => rfl

theorem rfGet_rfSet_other {r r' : FlatReg} (v : r.Value) (s : State) (h : r' ≠ r) :
    rfGet r' (rfSet r v s) = rfGet r' s := by
  cases r with
  | var id =>
    cases r' with
    | var id' =>
      have hne : id.toNat ≠ id'.toNat := fun heq => h (congrArg FlatReg.var (BitVec.eq_of_toNat_eq heq.symm))
      exact Vector.getElem_set_ne id.isLt id'.isLt hne
    | reqdata | nodeinfo | flashstatus => rfl
  | reqdata =>
    cases r' with
    | reqdata => exact absurd rfl h
    | _ => rfl
  | nodeinfo =>
    cases r' with
    | nodeinfo => exact absurd rfl h
    | _ => rfl
  | flashstatus =>
    cases r' with
    | flashstatus => exact absurd rfl h
    | _ => rfl

theorem parLookup_eq_some {id : Byte} {s : State} {e : ParEntry} (h : parLookup id s = some e) :
    s.regs.par[id.toNat]? = some e := by
  unfold parLookup at h
  split at h
  · exact h
  · cases h

/-- Settles O43: the operators' reads and writes, and the one command that shows a variable. -/
theorem stateOperatorLaws : Obligations.StateOperatorLaws := by
  refine ⟨rfGet_rfSet_same, fun r r' v s h => rfGet_rfSet_other v s h, fun r v s => ?_, fun s id => ?_,
    fun s id e value lock h => ?_, fun s t => tables_length_of_step, fun s id value => ?_, fun s id hnone => ?_⟩
  · cases r <;> rfl
  · refine ⟨rfGetU32OrZero_of_none, fun v => rfGetU32OrZero_of_some, rfGetU8OrZero_of_none,
      fun v => rfGetU8OrZero_of_some, fun h => ?_, fun v => rfGetReqdataOrZeros_of_some, fun h => ?_,
      fun v => rfGetNodeinfoOrZeros_of_some⟩
    · rw [rfGetReqdataOrZeros_of_none h, Vector.toList_replicate]
    · rw [rfGetNodeinfoOrZeros_of_none h, Vector.toList_replicate]
  · exact ⟨parSetValue_eq value (parLookup_eq_some h), parSetLock_eq lock (parLookup_eq_some h)⟩
  · obtain ⟨t, hexec, -, hans⟩ := exec_getVariableReq_answers (rfSet (.var id) value s) id
    rw [rfGetU32OrZero_of_some (rfGet_rfSet_same (.var id) value s)] at hans
    exact ⟨t, hexec, hans⟩
  · obtain ⟨t, hexec, -, hans⟩ := exec_getVariableReq_answers s id
    rw [rfGetU32OrZero_of_none hnone] at hans
    exact ⟨t, hexec, hans⟩

end Sys2Proof.Machine

/-! ### What was sent, and for which request (spec/43_dispatch.md R98 to R101) -/

namespace Sys2Proof.Machine

/-- The data of a response (R98). -/
theorem responseData_toList (resp : Instr) (s : State) :
    (responseData resp s).toList = envByte0 (rxChannelId s) s.params.respBufferType :: s.params.tag resp.variant ::
      (encodeFields resp ++ List.replicate (62 - (encodeFields resp).length) 0) :=
  wrapWire_wireEnc_toList ..

theorem getElem_eq_toList_getD {n k : Nat} (v : Vector Byte n) (h : k < n) : v[k] = v.toList.getD k 0 := by
  rw [List.getD_eq_getElem _ _ (by rwa [Vector.length_toList]), Vector.getElem_toList]

theorem responseData_getElem_one (resp : Instr) (s : State) : (responseData resp s)[1] = s.params.tag resp.variant := by
  rw [getElem_eq_toList_getD, responseData_toList, List.getD_cons_succ, List.getD_cons_zero]

/-- A response is a function of the fields, the parameters and the request's channel (R98, R100). -/
theorem responseData_congr (resp : Instr) {s u : State} (hparams : s.params = u.params)
    (hchannel : rxChannelId s = rxChannelId u) : responseData resp s = responseData resp u := by
  rw [responseData, responseData, hparams, hchannel]

/-- The channel of the frame being served, whatever its handler wrote. -/
theorem rxChannelId_served (s : State) (f : RxFrame) (ans : TxAnswer) (rest : List Arrival) (r : Regs) :
    rxChannelId { served s f ans rest (frameBuffer f.data) with regs := r } = channelOf (f.data.getD 0 0) := by
  simp [rxChannelId, served, frameBuffer]

/-- Settles O16: only the answered case of a serving step grows TX, by the one response. -/
theorem everyFrameSentAnswersItsRequest : Obligations.EveryFrameSentAnswersItsRequest := by
  intro s t hstep
  cases hphase : s.phase with
  | reset =>
    cases (step_of_reset hphase).symm.trans hstep
    rcases resetSequence_fails_or_loads s with ⟨e, -, h⟩ | ⟨c, -, -, h⟩ <;> rw [h]
    · exact .inl rfl
    · exact .inl rfl
  | failed => cases (step_of_failed hphase).symm.trans hstep
  | idle =>
    cases serves_of_step hphase hstep with
    | wait hrx => exact .inl rfl
    | readError ans rest hrx => exact .inl rfl
    | dropped f ans rest e hrx he => exact .inl (by simp)
    | ignored f ans rest i hrx hi hresponse => exact .inl rfl
    | answered f ans rest i resp s' hrx hi hresp hreply hhandled =>
      obtain ⟨hfd, hext, hdec⟩ := receiveFrame_ok.mp hi
      rw [hhandled.respond_eq]
      exact .inr ⟨f, ans, rest, i, _, resp.variant, rfl, hrx, rfl, hfd, hext, hdec, hreply, rfl, rfl,
        responseData_getElem_one ..⟩

/-! #### What a command does is a function of the registers (R91, R100) -/

/-- A command is ignored, or answered with a response and a register file that depend on the register file alone. -/
theorem exec_of_regs (i : Instr) (r : Regs) :
    (∀ u : State, exec i u = .next (ignoreResponse i.variant u)) ∨
    ∃ resp r', ∀ u : State, u.regs = r → exec i u = .next (respond resp { u with regs := r' }) := by
  cases i with
  | setVariableReq id v =>
    refine .inr ⟨.setVariableRes id v, { r with var := r.var.set id.toNat (some v) id.isLt }, ?_⟩
    rintro u rfl
    rfl
  | parameterSetReq id v =>
    refine .inr ?_
    cases he : r.par[id.toNat]? with
    | none =>
      refine ⟨.parameterSetConf id statusInvalidParameterID 0, r, ?_⟩
      rintro u rfl
      exact exec_parameterSetReq_unknown v (parExists_eq_false he)
    | some e =>
      cases hl : e.locked with
      | true =>
        refine ⟨.parameterSetConf id statusParameterLocked 0, r, ?_⟩
        rintro u rfl
        exact exec_parameterSetReq_locked v he hl
      | false =>
        refine ⟨.parameterSetConf id statusSuccess v, { r with par := r.par.set id.toNat { e with value := v } }, ?_⟩
        rintro u rfl
        rw [exec_parameterSetReq_unlocked v he hl, parSetValue_eq v he]
  | parameterSetLockReq id b =>
    refine .inr ?_
    cases he : r.par[id.toNat]? with
    | none =>
      refine ⟨.parameterSetLockConf id statusInvalidParameterID false, r, ?_⟩
      rintro u rfl
      exact exec_parameterSetLockReq_unknown b (parExists_eq_false he)
    | some e =>
      refine ⟨.parameterSetLockConf id statusSuccess b, { r with par := r.par.set id.toNat { e with locked := b } }, ?_⟩
      rintro u rfl
      rw [exec_parameterSetLockReq_known b he, parSetLock_eq b he]
  | resetAllSettingsReq =>
    refine .inr ⟨.resetAllSettingsRes, r, ?_⟩
    rintro u rfl
    rfl
  | statusReq =>
    refine .inr ⟨.statusRes, r, ?_⟩
    rintro u rfl
    rfl
  | syncClockReq =>
    refine .inr ⟨.syncClockRes, r, ?_⟩
    rintro u rfl
    rfl
  | heartbeatReq counter =>
    refine .inr ⟨.heartbeatRes (counter + 1), r, ?_⟩
    rintro u rfl
    rfl
  | getVariableReq id =>
    refine .inr ⟨.getVariableRes id ((r.var[id.toNat]'id.isLt).getD 0), r, ?_⟩
    rintro u rfl
    rfl
  | dataReq =>
    refine .inr ⟨decodeFields .dataRes (r.reqdata.getD (Vector.replicate 60 0)).toList, r, ?_⟩
    rintro u rfl
    rfl
  | nodeInfoReq =>
    refine .inr ⟨decodeFields .nodeInfoRes (r.nodeinfo.getD (Vector.replicate 40 0)).toList, r, ?_⟩
    rintro u rfl
    rfl
  | flashClearReq =>
    refine .inr ⟨.flashStatusRes (r.flashstatus.getD 0), r, ?_⟩
    rintro u rfl
    rfl
  | nodeInfoExtReq =>
    refine .inr ⟨.nodeInfoExtRes (BitVec.ofNat 8 r.tel.length) (BitVec.ofNat 8 r.par.length) r.firmwareHash r.liquidHash
      (bytesAt 52 r.deviceName.toList 0), r, ?_⟩
    rintro u rfl
    rfl
  | _ => exact .inl fun _ => rfl

/-- Settles O21: the answer is read when the response is handed over, after everything else has been decided. -/
theorem failedSendKeepsTheWrite : Obligations.FailedSendKeepsTheWrite := by
  intro s ev rest hphase
  cases ev with
  | rxError => exact ⟨_, _, step_of_rxError hphase rfl, step_of_rxError hphase rfl, rfl, rfl, rfl, rfl, by simp⟩
  | rxFrame f =>
    cases hr : receiveFrame s.params f with
    | error e =>
      refine ⟨_, _, step_of_receiveFrame_error hphase rfl hr, step_of_receiveFrame_error hphase rfl hr, ?_⟩
      simp
    | ok i =>
      have hstep (ans : TxAnswer) := step_of_receiveFrame_ok (s := { s with rx := ⟨.rxFrame f, ans⟩ :: rest }) hphase rfl hr
      rcases exec_of_regs i s.regs with hignored | ⟨resp, r', hanswered⟩
      · refine ⟨_, _, (hstep .ok).trans (hignored _), (hstep .transportError).trans (hignored _), ?_⟩
        simp [served]
      · refine ⟨_, _, (hstep .ok).trans (hanswered _ rfl), (hstep .transportError).trans (hanswered _ rfl), ?_⟩
        rw [respond_eq_ports, respond_eq_ports]
        refine ⟨rfl, rfl, rfl, ?_, ?_⟩
        · simp only [List.map_append]
          rfl
        · simp [served]

/-! #### What the engine does not look at (R100) -/

theorem encodeFields_injective {i j : Instr} (hv : i.variant = j.variant) (h : encodeFields i = encodeFields j) :
    i = j := by
  have hround := decodeFields_encodeFields i []
  rw [hv, h, decodeFields_encodeFields] at hround
  exact hround.symm

/-- Decoding reads the payload_size bytes of the fields only (R74). -/
theorem decodeFields_congr {v : Variant} {b c : List Byte} (hb : v.payloadSize ≤ b.length)
    (hc : v.payloadSize ≤ c.length) (h : ∀ k, k < v.payloadSize → b.getD k 0 = c.getD k 0) :
    decodeFields v b = decodeFields v c := by
  have hsize (d : List Byte) : (encodeFields (decodeFields v d)).length = v.payloadSize := by
    rw [encodeFields_length, decodeFields_variant]
  apply encodeFields_injective
  · rw [decodeFields_variant, decodeFields_variant]
  · apply List.ext_getElem
    · rw [hsize, hsize]
    · intro k hk hk'
      have hkv : k < v.payloadSize := hsize b ▸ hk
      rw [← List.getD_eq_getElem _ 0 hk, ← List.getD_eq_getElem _ 0 hk', encodeFields_decodeFields_getD hb hkv,
        encodeFields_decodeFields_getD hc hkv, h k hkv]

/-- Frames with the same channel, tag and field bytes decode alike (R100). -/
theorem decodeFrame_congr {p : Params} {b c : List Byte} (hb : b.length = 64) (hc : c.length = 64)
    (hchannel : channelOf (b.getD 0 0) = channelOf (c.getD 0 0)) (htag : b.getD 1 0 = c.getD 1 0)
    (hfields : ∀ v : Variant, p.tag v = b.getD 1 0 → ∀ k, k < v.payloadSize → b.getD (2 + k) 0 = c.getD (2 + k) 0) :
    decodeFrame p b = decodeFrame p c := by
  rw [decodeFrame_of_length hb, decodeFrame_of_length hc, ← hchannel, ← htag]
  cases hv : variantOfTag p (b.getD 1 0) with
  | none => rw [wireDec_cons_of_none hv, wireDec_cons_of_none hv]
  | some v =>
    have hlen (d : List Byte) (hd : d.length = 64) : v.payloadSize ≤ (d.drop 2).length := by
      rw [List.length_drop, hd]
      exact payloadSize_le v
    have hsame : decodeFields v (b.drop 2) = decodeFields v (c.drop 2) := by
      refine decodeFields_congr (hlen b hb) (hlen c hc) fun k hk => ?_
      rw [getD_drop_two, getD_drop_two, Nat.add_comm]
      exact hfields v (variantOfTag_eq_some_tag hv) k hk
    rw [wireDec_cons_of_some hv, wireDec_cons_of_some hv, hsame, List.length_drop, List.length_drop, hb, hc]

theorem receiveFrame_of_kind (p : Params) {f : RxFrame} (hfd : f.fd = true) (hext : f.ext = false) :
    receiveFrame p f = decodeFrame p f.data := by
  simp [receiveFrame, hfd, hext]

/-- Responses with the same data, sent from states with the same registers and ports, leave the same. -/
theorem respond_congr {resp : Instr} {s u : State} (hregs : s.regs = u.regs) (hdiag : s.diag = u.diag)
    (hphase : s.phase = u.phase) (htx : s.tx = u.tx) (hanswer : s.txAnswer = u.txAnswer)
    (hdata : responseData resp s = responseData resp u) :
    (respond resp s).regs = (respond resp u).regs ∧ (respond resp s).diag = (respond resp u).diag ∧
      (respond resp s).phase = (respond resp u).phase ∧ (respond resp s).txb = (respond resp u).txb ∧
      (respond resp s).tx.map (fun r => (r.frame.data, r.answer)) =
        (respond resp u).tx.map (fun r => (r.frame.data, r.answer)) := by
  simp only [respond_eq_ports, responseRecord, hregs, hdiag, hphase, htx, hanswer, hdata, List.map_append, List.map_cons,
    and_self]

/-- Settles O20: the two frames carry the same command or have the same defect, and a response's data follow the command
and the channel. -/
theorem identifierBufferTypeAndPadAreNotExamined : Obligations.IdentifierBufferTypeAndPadAreNotExamined := by
  intro s f g ans rest hphase hffd hfext hgfd hgext hflen hglen hchannel htag hfields
  have hchannel' : channelOf (f.data.getD 0 0) = channelOf (g.data.getD 0 0) :=
    BitVec.eq_of_toNat_eq (by rw [channelOf_toNat, channelOf_toNat, hchannel])
  have hsame : receiveFrame s.params g = receiveFrame s.params f := by
    rw [receiveFrame_of_kind _ hffd hfext, receiveFrame_of_kind _ hgfd hgext,
      decodeFrame_congr hflen hglen hchannel' htag hfields]
  cases hr : receiveFrame s.params f with
  | error e =>
    refine ⟨_, _, step_of_receiveFrame_error hphase rfl hr, step_of_receiveFrame_error hphase rfl (hsame.trans hr), ?_⟩
    simp
  | ok i =>
    have hstepf := step_of_receiveFrame_ok (s := { s with rx := ⟨.rxFrame f, ans⟩ :: rest }) hphase rfl hr
    have hstepg := step_of_receiveFrame_ok (s := { s with rx := ⟨.rxFrame g, ans⟩ :: rest }) hphase rfl (hsame.trans hr)
    rcases exec_of_regs i s.regs with hignored | ⟨resp, r', hanswered⟩
    · refine ⟨_, _, hstepf.trans (hignored _), hstepg.trans (hignored _), ?_⟩
      simp [served]
    · refine ⟨_, _, hstepf.trans (hanswered _ rfl), hstepg.trans (hanswered _ rfl), ?_⟩
      exact respond_congr rfl rfl rfl rfl rfl (responseData_congr resp rfl
        ((rxChannelId_served _ f ans rest r').trans (hchannel'.trans (rxChannelId_served _ g ans rest r').symm)))

/-! #### Two frames in a row (spec/20_memory.md R42) -/

/-- What a frame that is answered leaves for the next one: the handler's registers, the events that follow, and one
frame more on TX. -/
theorem step_of_respond {s s' : State} {f : RxFrame} {ans : TxAnswer} {rest : List Arrival} {i resp : Instr}
    (hphase : s.phase = .idle) (hrx : s.rx = { event := .rxFrame f, answer := ans } :: rest)
    (hi : receiveFrame s.params f = .ok i)
    (hexec : exec i (served s f ans rest (frameBuffer f.data)) = .next (respond resp s'))
    (hregs : s' = { served s f ans rest (frameBuffer f.data) with regs := s'.regs }) :
    ∃ t out, step s = .next t ∧ t.phase = .idle ∧ t.params = s.params ∧ t.rx = rest ∧ t.regs = s'.regs ∧
      t.tx = s.tx ++ [{ frame := out, answer := ans }] ∧
      out.data.toList.drop 1 =
        s.params.tag resp.variant :: (encodeFields resp ++ List.replicate (62 - resp.variant.payloadSize) 0) := by
  refine ⟨_, (responseRecord resp s').frame, (step_of_receiveFrame_ok hphase hrx hi).trans hexec, ?_⟩
  rw [hregs, respond_eq_ports]
  refine ⟨hphase, rfl, rfl, rfl, rfl, ?_⟩
  rw [responseRecord, responseData_toList, encodeFields_length]
  rfl

/-- Settles O23: the second frame is served in the registers that the first one's handler left. -/
theorem writeIsSeenByTheNextFrame : Obligations.WriteIsSeenByTheNextFrame := by
  constructor
  · intro s f g a b rest id value hphase hrx hffd hfext hgfd hgext hf hg
    obtain ⟨t, -, hstep, htphase, htparams, htrx, htregs, -⟩ :=
      step_of_respond hphase hrx (receiveFrame_ok.mpr ⟨hffd, hfext, hf⟩) rfl rfl
    obtain ⟨u, out, hstep', -, -, -, -, htx, hout⟩ :=
      step_of_respond htphase htrx (receiveFrame_ok.mpr ⟨hgfd, hgext, htparams ▸ hg⟩) rfl rfl
    have hread : rfGet (.var id) t = some value := by
      simp only [rfGet, htregs, rfSet_var_regs, Vector.getElem_set_self]
    refine ⟨t, u, out, hstep, hstep', htx, hout.trans ?_⟩
    change _ :: (encSetVar id (rfGetU32OrZero id t) ++ _) = _
    rw [rfGetU32OrZero_of_some hread, encSetVar_eq, htparams]
    rfl
  · intro s f g a b rest id lock value e hphase hrx hffd hfext hgfd hgext hf hg he
    obtain ⟨t, -, hstep, htphase, htparams, htrx, htregs, -⟩ :=
      step_of_respond hphase hrx (receiveFrame_ok.mpr ⟨hffd, hfext, hf⟩) (exec_parameterSetLockReq_known lock he) rfl
    have ht : t.regs.par[id.toNat]? = some { e with locked := lock } := htregs ▸ parSetLock_par_getElem? lock he
    have hi := receiveFrame_ok.mpr ⟨hgfd, hgext, htparams ▸ hg⟩
    cases lock with
    | true =>
      obtain ⟨u, out, hstep', -, -, -, huregs, htx, hout⟩ :=
        step_of_respond htphase htrx hi (exec_parameterSetReq_locked value ht rfl) rfl
      refine ⟨t, u, out, hstep, hstep', htx, huregs ▸ ht, hout.trans ?_⟩
      change _ :: (encParConf id 2 0 ++ _) = _
      rw [encParConf_eq, htparams]
      rfl
    | false =>
      obtain ⟨u, out, hstep', -, -, -, huregs, htx, hout⟩ :=
        step_of_respond htphase htrx hi (exec_parameterSetReq_unlocked value ht rfl) rfl
      refine ⟨t, u, out, hstep, hstep', htx, huregs ▸ parSetValue_par_getElem? value ht, hout.trans ?_⟩
      change _ :: (encParConf id 0 value ++ _) = _
      rw [encParConf_eq, htparams]
      rfl

end Sys2Proof.Machine

/-! ### The invariant of a safe run -/

namespace Sys2Proof.Machine

/-- Beyond the fields a response is zero (R73, R98). -/
theorem responseData_pad (resp : Instr) (s : State) {k : Nat} (hk : k < 64) (hpad : 2 + resp.variant.payloadSize ≤ k) :
    (responseData resp s)[k] = 0 := by
  obtain ⟨j, rfl⟩ := Nat.exists_eq_add_of_le' (show 2 ≤ k by omega)
  rw [getElem_eq_toList_getD, responseData_toList, List.getD_cons_succ, List.getD_cons_succ, getD_append_replicate,
    List.getD_eq_default _ _ (by rw [encodeFields_length]; omega)]

/-- The response to a frame of the generic channel is a legal one (R97 to R99). -/
theorem legalResponse_responseRecord {s : State} {resp : Instr} (hwf : s.params.wf = true)
    (hchannel : rxChannelId s = s.params.genericChannelId) (hresp : resp.variant.isResponse = true) :
    LegalResponse s.params (responseRecord resp s).frame := by
  refine ⟨?_, ?_, resp, hresp, ?_, fun k hk hpad => responseData_pad resp s hk hpad⟩
  · simp [responseRecord]
  · change bufferTypeOf (responseData resp s)[0] = _
    rw [getElem_eq_toList_getD, responseData_toList, List.getD_cons_zero, bufferTypeOf_envByte0]
  · change decodeFrame _ (responseData resp s).toList = _
    rw [responseData, hchannel, decodeFrame_wrapWire _ (wireEnc_length hwf resp), wireDec_wireEnc hwf]

/-- A serving step hands at most one frame to TX, and that is a legal response. -/
theorem Serves.tx_legal {s t : State} (h : Serves s t) (hwf : s.params.wf = true) :
    t.tx = s.tx ∨ ∃ r, t.tx = s.tx ++ [r] ∧ LegalResponse s.params r.frame := by
  cases h with
  | wait hrx => exact .inl rfl
  | readError ans rest hrx => exact .inl rfl
  | dropped f ans rest e hrx he => exact .inl (by simp)
  | ignored f ans rest i hrx hi hresponse => exact .inl rfl
  | answered f ans rest i resp s' hrx hi hresp hreply hhandled =>
    obtain ⟨-, -, hdec⟩ := receiveFrame_ok.mp hi
    have hchannel : rxChannelId (served s f ans rest (frameBuffer f.data)) = s.params.genericChannelId :=
      (rxChannelId_served s f ans rest s.regs).trans (tag_of_decodeFrame hdec).2
    rw [hhandled.respond_eq]
    exact .inr ⟨_, rfl, legalResponse_responseRecord hwf hchannel hresp⟩

/-- No step reports an operator failure (R151). -/
theorem diag_codes_of_step {s t : State} (hstep : step s = .next t) (hdiag : ∀ e ∈ s.diag, e.code ≠ 6 ∧ e.code ≠ 7) :
    ∀ e ∈ t.diag, e.code ≠ 6 ∧ e.code ≠ 7 := by
  obtain ⟨new, happend, -, hcodes⟩ := reportedCodes s t hstep
  intro e he
  rw [happend, List.mem_append] at he
  rcases he with hold | hnew
  · exact hdiag e hold
  · obtain ⟨hidle, hreset⟩ := hcodes e hnew
    have hlegal : ∀ c : BitVec 8, c ∈ [1, 2, 3, 4, 5, 8, 9] ∨ c ∈ [10, 11, 12] → c ≠ 6 ∧ c ≠ 7 := by decide
    cases hphase : s.phase with
    | idle => exact hlegal _ (.inl (hidle hphase))
    | reset => exact hlegal _ (.inr (hreset hphase))
    | failed => cases (step_of_failed hphase).symm.trans hstep

theorem params_of_serving_step {s t : State} (hphase : s.phase = .idle) (hstep : step s = .next t) :
    t.params = s.params := by
  obtain ⟨t', hstep', -, hparams, -⟩ := frameStepCompletes s hphase
  cases hstep.symm.trans hstep'
  exact hparams

/-- Settles O26: a reset gives the parameters and tables that the reset sequence has checked; a serving step keeps them
and sends legal responses. -/
theorem stepKeepsInv : Obligations.StepKeepsInv := by
  intro s t hinv hstep
  have hdiag := diag_codes_of_step hstep hinv.diag
  cases hphase : s.phase with
  | failed => cases (step_of_failed hphase).symm.trans hstep
  | reset =>
    cases (step_of_reset hphase).symm.trans hstep
    rcases resetSequence_fails_or_loads s with ⟨e, -, h⟩ | ⟨c, hp, hc, h⟩ <;> rw [h] at hdiag ⊢
    · exact ⟨nofun, nofun, hinv.tx, hdiag⟩
    · exact ⟨fun _ => hp, fun _ => loadRegs_tables_le hc, hinv.tx, hdiag⟩
  | idle =>
    have hparams := params_of_serving_step hphase hstep
    have hwf := hinv.params hphase
    obtain ⟨hpar, htel⟩ := tables_length_of_step hphase hstep
    refine ⟨fun _ => hparams ▸ hwf, fun _ => ?_, ?_, hdiag⟩
    · rw [hpar, htel]
      exact hinv.tables hphase
    · rw [hparams]
      rcases (serves_of_step hphase hstep).tx_legal hwf with htx | ⟨r, htx, hlegal⟩ <;> rw [htx]
      · exact hinv.tx
      · intro r' hr'
        rcases List.mem_append.mp hr' with hold | hnew
        · exact hinv.tx r' hold
        · rw [List.mem_singleton.mp hnew]
          exact hlegal

end Sys2Proof.Machine

/-! ### States a master cannot distinguish (spec/70_reset_and_hazards.md R185) -/

namespace Sys2Proof.Machine

/-- The operation neither reads nor writes the register file. -/
def RegsBlind (f : State → State) : Prop := ∀ (s : State) (r : Regs), f { s with regs := r } = { f s with regs := r }

theorem RegsBlind.regs_eq {f : State → State} (hf : RegsBlind f) (s : State) : (f s).regs = s.regs :=
  (congrArg State.regs (hf s s.regs) :)

theorem regsBlind_emitDiag (e : DiagEvent) : RegsBlind (emitDiag e) := fun _ _ => rfl

theorem regsBlind_dropFrame (e : DecodeError) : RegsBlind (dropFrame e) := fun _ _ => rfl

theorem regsBlind_ignoreResponse (v : Variant) : RegsBlind (ignoreResponse v) := fun _ _ => rfl

theorem regsBlind_takeArrival (a : Arrival) (rest : List Arrival) : RegsBlind (takeArrival a rest) := fun _ _ => rfl

theorem regsBlind_served (f : RxFrame) (ans : TxAnswer) (rest : List Arrival) (b : Vector Byte 64) :
    RegsBlind fun s => served s f ans rest b := fun _ _ => rfl

theorem regsBlind_latchFrame (f : RxFrame) : RegsBlind (latchFrame f) := by
  intro s r
  unfold latchFrame
  split <;> rfl

theorem regsBlind_respond (resp : Instr) : RegsBlind (respond resp) := by
  intro s r
  rw [respond_eq_ports, respond_eq_ports]
  rfl

/-- Alikeness is a matter of the registers once everything else agrees. -/
theorem Alike.of_regs {s t s' t' : State} (h : Alike s t) (houtside : t' = { s' with regs := t'.regs })
    (hs : s'.regs = s.regs) (ht : t'.regs = t.regs) : Alike s' t' where
  outside := houtside
  var := by rw [hs, ht]; exact h.var
  reqdata := by rw [hs, ht]; exact h.reqdata
  nodeinfo := by rw [hs, ht]; exact h.nodeinfo
  flashstatus := by rw [hs, ht]; exact h.flashstatus
  firmwareHash := by rw [hs, ht]; exact h.firmwareHash
  liquidHash := by rw [hs, ht]; exact h.liquidHash
  deviceName := by rw [hs, ht]; exact h.deviceName
  par := by rw [hs, ht]; exact h.par
  tel := by rw [hs, ht]; exact h.tel

theorem Alike.map {s t : State} {f : State → State} (hf : RegsBlind f) (h : Alike s t) : Alike (f s) (f t) := by
  refine h.of_regs ?_ (hf.regs_eq s) (hf.regs_eq t)
  rw [hf.regs_eq t, ← hf s t.regs, ← h.outside]

theorem Alike.refl (s : State) : Alike s s := ⟨rfl, fun _ => rfl, rfl, rfl, rfl, rfl, rfl, rfl, rfl, rfl⟩

/-! #### The three writes -/

theorem Alike.rfSet_var {s t : State} (h : Alike s t) (id : Byte) (v : Word) :
    Alike (rfSet (.var id) v s) (rfSet (.var id) v t) where
  outside := by rw [h.outside]; rfl
  var := by
    intro id'
    simp only [rfSet_var_regs, Vector.getElem_set]
    split
    · rfl
    · exact h.var id'
  reqdata := h.reqdata
  nodeinfo := h.nodeinfo
  flashstatus := h.flashstatus
  firmwareHash := h.firmwareHash
  liquidHash := h.liquidHash
  deviceName := h.deviceName
  par := h.par
  tel := h.tel

/-- What a frame can tell of a parameter (R18, R20). -/
def observed (e : ParEntry) : Word × Bool := (e.value, e.locked)

/-- The entries of one id are both absent, or both there with the same value and lock. -/
theorem Alike.par_cases {s t : State} (h : Alike s t) (k : Nat) :
    (s.regs.par[k]? = none ∧ t.regs.par[k]? = none) ∨
    ∃ e e', s.regs.par[k]? = some e ∧ t.regs.par[k]? = some e' ∧ e'.value = e.value ∧ e'.locked = e.locked := by
  have hmap : s.regs.par.map observed = t.regs.par.map observed := h.par
  have hentry : (s.regs.par[k]?).map observed = (t.regs.par[k]?).map observed := by
    rw [← List.getElem?_map, ← List.getElem?_map, hmap]
  cases hs : s.regs.par[k]? with
  | none =>
    rw [hs] at hentry
    exact .inl ⟨rfl, Option.map_eq_none_iff.mp hentry.symm⟩
  | some e =>
    rw [hs] at hentry
    obtain ⟨e', ht, he⟩ := Option.map_eq_some_iff.mp hentry.symm
    exact .inr ⟨e, e', rfl, ht, congrArg Prod.fst he, congrArg Prod.snd he⟩

/-- Replacing the entries of one id by alike ones keeps the states alike. -/
theorem Alike.set_par {s t : State} (h : Alike s t) (k : Nat) {e e' : ParEntry} (he : observed e = observed e') :
    Alike { s with regs := { s.regs with par := s.regs.par.set k e } }
      { t with regs := { t.regs with par := t.regs.par.set k e' } } where
  outside := by rw [h.outside]
  var := h.var
  reqdata := h.reqdata
  nodeinfo := h.nodeinfo
  flashstatus := h.flashstatus
  firmwareHash := h.firmwareHash
  liquidHash := h.liquidHash
  deviceName := h.deviceName
  par := by
    have hmap : s.regs.par.map observed = t.regs.par.map observed := h.par
    change (s.regs.par.set k e).map observed = (t.regs.par.set k e').map observed
    rw [List.map_set, List.map_set, he, hmap]
  tel := h.tel

/-! #### The reads -/

theorem Alike.rfGetU32OrZero {s t : State} (h : Alike s t) (id : Byte) :
    Machine.rfGetU32OrZero id s = Machine.rfGetU32OrZero id t := h.var id

theorem Alike.rfGetReqdataOrZeros {s t : State} (h : Alike s t) :
    Machine.rfGetReqdataOrZeros s = Machine.rfGetReqdataOrZeros t := h.reqdata

theorem Alike.rfGetNodeinfoOrZeros {s t : State} (h : Alike s t) :
    Machine.rfGetNodeinfoOrZeros s = Machine.rfGetNodeinfoOrZeros t := h.nodeinfo

theorem Alike.rfGetU8OrZero {s t : State} (h : Alike s t) :
    Machine.rfGetU8OrZero s = Machine.rfGetU8OrZero t := h.flashstatus

theorem Alike.parCount {s t : State} (h : Alike s t) : Machine.parCount s = Machine.parCount t := by
  have hlength := congrArg List.length h.par
  rw [List.length_map, List.length_map] at hlength
  rw [Machine.parCount, Machine.parCount, hlength]

theorem Alike.telCount {s t : State} (h : Alike s t) : Machine.telCount s = Machine.telCount t := by
  rw [Machine.telCount, Machine.telCount, h.tel]

theorem Alike.deviceNameSent {s t : State} (h : Alike s t) : Machine.deviceNameSent s = Machine.deviceNameSent t :=
  Vector.toList_inj.mp (by rw [deviceNameSent_toList, deviceNameSent_toList, h.deviceName])

/-! #### The commands and the step -/

/-- Two handlers that leave alike states and give the same response. -/
theorem exec_alike_of_respond {i resp : Instr} {s t s₁ t₁ : State} (h : Alike s₁ t₁)
    (hs : exec i s = .next (respond resp s₁)) (ht : exec i t = .next (respond resp t₁)) :
    ∃ s' t', exec i s = .next s' ∧ exec i t = .next t' ∧ Alike s' t' :=
  ⟨_, _, hs, ht, h.map (regsBlind_respond resp)⟩

/-- A command makes alike states alike: what it reads is the same in both, and what it writes it writes in both. -/
theorem exec_alike (i : Instr) {s t : State} (h : Alike s t) :
    ∃ s' t', exec i s = .next s' ∧ exec i t = .next t' ∧ Alike s' t' := by
  cases i with
  | setVariableReq id v => exact exec_alike_of_respond (h.rfSet_var id v) rfl rfl
  | parameterSetReq id v =>
    rcases h.par_cases id.toNat with ⟨hs, ht⟩ | ⟨e, e', hs, ht, -, hlock⟩
    · exact exec_alike_of_respond h (exec_parameterSetReq_unknown v (parExists_eq_false hs))
        (exec_parameterSetReq_unknown v (parExists_eq_false ht))
    · cases hl : e.locked with
      | true =>
        exact exec_alike_of_respond h (exec_parameterSetReq_locked v hs hl)
          (exec_parameterSetReq_locked v ht (hlock.trans hl))
      | false =>
        refine exec_alike_of_respond ?_ (exec_parameterSetReq_unlocked v hs hl)
          (exec_parameterSetReq_unlocked v ht (hlock.trans hl))
        rw [parSetValue_eq v hs, parSetValue_eq v ht]
        exact h.set_par _ (congrArg (Prod.mk v) hlock.symm)
  | parameterSetLockReq id b =>
    rcases h.par_cases id.toNat with ⟨hs, ht⟩ | ⟨e, e', hs, ht, hvalue, -⟩
    · exact exec_alike_of_respond h (exec_parameterSetLockReq_unknown b (parExists_eq_false hs))
        (exec_parameterSetLockReq_unknown b (parExists_eq_false ht))
    · refine exec_alike_of_respond ?_ (exec_parameterSetLockReq_known b hs) (exec_parameterSetLockReq_known b ht)
      rw [parSetLock_eq b hs, parSetLock_eq b ht]
      exact h.set_par _ (congrArg (Prod.mk · b) hvalue.symm)
  | resetAllSettingsReq => exact exec_alike_of_respond (resp := .resetAllSettingsRes) h rfl rfl
  | statusReq => exact exec_alike_of_respond (resp := .statusRes) h rfl rfl
  | syncClockReq => exact exec_alike_of_respond (resp := .syncClockRes) h rfl rfl
  | heartbeatReq counter => exact exec_alike_of_respond (resp := .heartbeatRes (counter + 1)) h rfl rfl
  | getVariableReq id =>
    refine exec_alike_of_respond (resp := .getVariableRes id (rfGetU32OrZero id s)) h rfl ?_
    rw [h.rfGetU32OrZero]
    rfl
  | dataReq =>
    refine exec_alike_of_respond (resp := decodeFields .dataRes (rfGetReqdataOrZeros s).toList) h rfl ?_
    rw [h.rfGetReqdataOrZeros]
    rfl
  | nodeInfoReq =>
    refine exec_alike_of_respond (resp := decodeFields .nodeInfoRes (rfGetNodeinfoOrZeros s).toList) h rfl ?_
    rw [h.rfGetNodeinfoOrZeros]
    rfl
  | flashClearReq =>
    refine exec_alike_of_respond (resp := .flashStatusRes (rfGetU8OrZero s)) h rfl ?_
    rw [h.rfGetU8OrZero]
    rfl
  | nodeInfoExtReq =>
    refine exec_alike_of_respond (resp := .nodeInfoExtRes (telCount s) (parCount s) s.regs.firmwareHash s.regs.liquidHash
      (deviceNameSent s)) h rfl ?_
    rw [h.telCount, h.parCount, h.firmwareHash, h.liquidHash, h.deviceNameSent]
    rfl
  | _ => exact ⟨_, _, rfl, rfl, h.map (regsBlind_ignoreResponse _)⟩

/-- The reset sequence writes every register and reads none. -/
theorem resetSequence_regs (s : State) (r : Regs) : resetSequence { s with regs := r } = resetSequence s := by
  unfold resetSequence
  rfl

/-- Settles O25: what decides a step is outside the registers, and each command answers from what a frame can tell. -/
theorem alikeStatesStayAlike : Obligations.AlikeStatesStayAlike := by
  intro s t s' h hstep
  have hphase_eq : t.phase = s.phase := by rw [h.outside]
  have hrx_eq : t.rx = s.rx := by rw [h.outside]
  have hparams_eq : t.params = s.params := by rw [h.outside]
  rcases step_cases hstep with ⟨hphase, hs'⟩ | ⟨hphase, hrx, rfl⟩ | ⟨ans, rest, hphase, hrx, rfl⟩ |
    ⟨f, ans, rest, e, hphase, hrx, he, rfl⟩ | ⟨f, ans, rest, i, hphase, hrx, hi, hexec⟩
  · refine ⟨_, step_of_reset (hphase_eq.trans hphase), ?_⟩
    rw [hs', h.outside, resetSequence_regs]
    exact Alike.refl _
  · exact ⟨t, step_of_rx_nil (hphase_eq.trans hphase) (hrx_eq.trans hrx), h⟩
  · exact ⟨_, step_of_rxError (hphase_eq.trans hphase) (hrx_eq.trans hrx),
      (h.map (regsBlind_takeArrival _ rest)).map (regsBlind_emitDiag _)⟩
  · exact ⟨_, step_of_receiveFrame_error (hphase_eq.trans hphase) (hrx_eq.trans hrx) (hparams_eq ▸ he),
      ((h.map (regsBlind_takeArrival _ rest)).map (regsBlind_latchFrame f)).map (regsBlind_dropFrame e)⟩
  · rw [served_eq s ans rest hi] at hexec
    obtain ⟨s₁, t₁, hs₁, ht₁, halike⟩ := exec_alike i (h.map (regsBlind_served f ans rest (frameBuffer f.data)))
    cases hs₁.symm.trans hexec
    have hstep' := step_of_receiveFrame_ok (hphase_eq.trans hphase) (hrx_eq.trans hrx) (hparams_eq ▸ hi)
    exact ⟨t₁, hstep'.trans ht₁, halike⟩

end Sys2Proof.Machine
